-- ==== Sys2Proof/Word.lean ====
section
/-! DEFINITION. The two word types of the machine: the 8-bit byte of the bus and of the general registers, and the
16-bit address, register pair, stack pointer and program counter (R6, R20, R26, R27, R40). -/

namespace Sys2Proof

/-- One byte: what the bus moves and what a general register holds (R6, R60). -/
abbrev Byte := BitVec 8

/-- A 16-bit value: an address, a register pair, SP or PC (R6). Its arithmetic is modulo 0x10000 (R10). -/
abbrev Word := BitVec 16

end Sys2Proof
end

