-- ==== Sys2Proof/Machine/Bits.lean ====
section
/-! DEFINITION. Byte order, slicing and extension (R8, R9, R63), kept where a repair can mend them. -/

namespace Sys2Proof

/-- `v[15:8]`. -/
def hi8 (v : Word) : Byte := v.extractLsb' 8 8

/-- `v[7:0]`. -/
def lo8 (v : Word) : Byte := v.extractLsb' 0 8

/-- `hi : lo`, the 16-bit value with `hi` in the more significant byte (R8, R21). -/
def mkWord (hi lo : Byte) : Word := hi ++ lo

/-- `sext_16(v)` (R9). -/
def sext16 (v : Byte) : Word := v.signExtend 16

/-- `zext_16(v)` (R9). -/
def zext16 (v : Byte) : Word := v.zeroExtend 16

/-- The high-page port address `0xFF00 + zext_16(n)` (R113). -/
def highPage (n : Byte) : Word := 0xFF00 + zext16 n

/-- The byte with the one bit `b` set, `1 << b` (R263, R265). -/
def bitMask (b : Fin 8) : Byte := (1 : Byte) <<< b.val

end Sys2Proof
end

