-- ==== Sys2Proof/WellFormed.lean ====
section
/-! DEFINITION. Which terms of `Instr` are instructions of the hardware. Every operand of every constructor takes all
values of its type (R113), so only two constructors have a check. -/

namespace Sys2Proof

/-- The eleven unprefixed opcodes that have no instruction (R114). -/
def invalidOpcodes : List Byte := [0xD3, 0xDB, 0xDD, 0xE3, 0xE4, 0xEB, 0xEC, 0xED, 0xF4, 0xFC, 0xFD]

/-- `illegal op` carries one of the eleven invalid opcodes (R114); the prefix row is "not itself an instruction" (R112):
its words are those of the 256 instructions of the prefixed page. -/
def wellFormed : Instr → Bool
  | .illegal op => invalidOpcodes.contains op
  | .prefixCb _ => false
  | _ => true

end Sys2Proof
end

