-- ==== Sys2Proof/Config.lean ====
section
/-! DEFINITION. What is fixed for one machine: the parameters of R7, the cartridge (R41, R380), and the FREE VALUES,
opaque constants without a body, one for each value the spec leaves open (log 3, 12, 13, 14, 24, 33). -/

namespace Sys2Proof

/-- `HALT_WAKE` (R7, R326): what ends the halted state. -/
inductive HaltWake where
  | ifAny
  | ieAndIf
  deriving DecidableEq, Repr

/-- `HALT_BUG_COND` (R7, R291): when HALT arms the halt bug. -/
inductive HaltBugCond where
  | imeClear
  | imeClearAndPending
  deriving DecidableEq, Repr

/-- `STOP_BEHAVIOUR` (R7, R292): the meaning of opcode 0x10. -/
inductive StopBehaviour where
  | refuse
  | nop2
  | haltLike
  deriving DecidableEq, Repr

/-- The parameters of R7, each with the default R7 gives it. State carries one of these records, so a statement about
every state holds for every value of every parameter (log 1). -/
structure Params where
  resetAF : Word := 0x01B0
  resetBC : Word := 0x0013
  resetDE : Word := 0x00D8
  resetHL : Word := 0x014D
  resetSP : Word := 0xFFFE
  resetPC : Word := 0x0100
  resetIME : Bool := false
  resetIE : Byte := 0x00
  resetIF : BitVec 5 := 0b00001
  resetDIV : Byte := 0xAB
  resetTIMA : Byte := 0x00
  resetTMA : Byte := 0x00
  resetTAC : BitVec 3 := 0
  resetDivTicks : Int := 256
  resetTimaTicks : Int := 1024
  haltWake : HaltWake := .ifAny
  haltBugCond : HaltBugCond := .imeClear
  stopBehaviour : StopBehaviour := .refuse
  ifUpperRead : BitVec 3 := 0b111
  deriving DecidableEq, Repr

/-- R7's defaults. -/
def Params.default : Params := {}

/-- The parameters of `State.reset`: R7's defaults, but STOP runs. R292 gives STOP two effects beside the default of
refusing the run; the model takes the one with a halted state (DESIGN CHOICE, unsafe, log 10). -/
def Params.atReset : Params := { Params.default with stopBehaviour := .haltLike }

/-- The bank-controller kinds: ROM-only (R382), MBC1 (R383, R384), HuC1 (identical to MBC1, R384), and every other
variant, which the spec leaves to the parameter CART (R386, log 14). -/
inductive CartKind where
  | romOnly
  | mbc1
  | huc1
  | other
  deriving DecidableEq, Repr

/-- The cartridge as selected once at load time (R380, R385): its controller kind, the number of 16 KB ROM banks and
of 8 KB RAM banks, the header's battery flag, and the persisted RAM image, if one was saved. `nibbleRam` marks, among the
kinds that are `other`, R380's "one variant with a fixed 512×4-bit nibble RAM". -/
structure Cart where
  kind : CartKind
  romBanks : Nat
  ramBanks : Nat
  battery : Bool
  saved : Option (List Host.Cell)
  nibbleRam : Bool := false
  deriving DecidableEq, Repr

/-- The cartridge of `State.reset`, where no image has been loaded: ROM-only, 32 KB, no RAM (DESIGN CHOICE, log 5). -/
def Cart.blank : Cart := { kind := .romOnly, romBanks := 2, ramBanks := 0, battery := false, saved := none }

/-- What a bank controller of another kind has received since reset: a bus write, or a reading of the host's clock
(R386, log 14). -/
inductive CartEvent where
  | write (addr : Word) (v : Byte)
  | clock (seconds : Nat)
  deriving DecidableEq, Repr

/-- What the window 0xA000 to 0xBFFF shows (R70, R73, R386): nothing, a bank of the cartridge's RAM, or registers of the
controller ("external RAM, switchable bank, or real-time-clock registers"). -/
inductive RamWindow where
  | closed
  | ram (bank : Nat)
  | register
  deriving DecidableEq, Repr, Inhabited

/-- The event is a command to the bank controller: a bus write in 0x0000 to 0x7FFF (R72). -/
def CartEvent.isCommand : CartEvent → Bool
  | .write addr _ => decide (addr.toNat < 0x8000)
  | .clock _ => false

namespace Config

/-- FREE VALUE (R402, U5): the reset content of a byte of work, high or video RAM or OAM, by the number of the draw and
the CPU address (log 3). -/
opaque resetByte : Nat → Nat → Byte

/-- FREE VALUE (R404, U6): the power-on value of a peripheral register, by address. It is the same after every reset:
R401's "idempotent" excepts only RAM (log 33). -/
opaque resetRegister : Nat → Byte

/-- FREE VALUE (R402): the reset content of a cartridge RAM byte that no saved image gives, by draw and RAM offset. -/
opaque resetCartRam : Nat → Nat → Byte

/-- FREE VALUE (R60, R363, U6): the bits of a peripheral register that a CPU write does not reach, by address. -/
opaque periphReadOnly : Nat → Byte

/-- FREE VALUE (R60, R363, U6): the bits of a peripheral register that always read as 1, by address. -/
opaque periphOnes : Nat → Byte

/-- FREE VALUE (R357): bits 3..0 of P1 when both button groups or none are selected, by the select bits and the two
latched masks. -/
opaque joyNibble : BitVec 2 → BitVec 4 → BitVec 4 → BitVec 4

/-- FREE VALUE (R357): whether a change of the latched masks that presses no button raises the joypad's request ("The
document does not say which edges raise the request (press only, or any change)"). -/
opaque joyReleaseRaises : Bool

/-- FREE VALUE (R386): the ROM bank that another controller shows at 0x0000 to data reads, by what it has received since
reset, once that includes a command (log 14). -/
opaque otherLowBank : List CartEvent → Nat

/-- FREE VALUE (R386): the ROM bank that another controller shows at 0x4000, likewise. -/
opaque otherHighBank : List CartEvent → Nat

/-- FREE VALUE (R386): what another controller shows in 0xA000 to 0xBFFF, by what it has received since reset. -/
opaque otherWindow : List CartEvent → RamWindow

/-- FREE VALUE (R386): what a register of another controller answers, by what it has received and the address. -/
opaque otherRegister : List CartEvent → Nat → Byte

/-- FREE VALUE (R380, R386): which of the 512 entries of a nibble RAM an address reaches. -/
opaque nibbleSlot : Nat → Nat

/-- FREE VALUE (R380, R386): bits 7..4 of a read of a nibble RAM, by address. -/
opaque nibbleUpper : Nat → BitVec 4

/-- FREE VALUE (R385, N13): the controller kind of a cartridge-type byte other than 0x00, none if unrecognised. -/
opaque cartKind : Byte → Option CartKind

/-- FREE VALUE (R385, N13): whether a cartridge-type byte carries the battery flag. -/
opaque cartBattery : Byte → Bool

/-- FREE VALUE (R380, N13): whether a cartridge-type byte is the variant with the nibble RAM. -/
opaque cartNibbleRam : Byte → Bool

end Config

end Sys2Proof
end

