-- ==== Sys2Proof/Machine/State.lean ====
section
/-! DEFINITION. The state of the machine as plain data (R20 to R42), the reasons a step can stop, and the state after
reset. -/

namespace Sys2Proof.Machine

/-- A memory: address and byte pairs, addresses strictly rising (`Memory.wf` in Machine/Mem.lean). -/
abbrev Memory := List Host.Cell

/-- The record of the fatal error InvalidOpcode(pc, op) (R34, R301). -/
structure InvalidOp where
  pc : Word
  op : Byte
  deriving DecidableEq, Repr

/-- The interrupt sources that PERIPHERAL may raise between CPU steps (R353); the timer's own request comes from
the timer (R344). -/
inductive PeriphSource where
  | vblank
  | lcd
  | serial
  | joypad
  deriving DecidableEq, Repr

/-- One move of an agent between two CPU steps (R353, log 7). -/
inductive Move where
  /-- The CPU takes one step (R322). -/
  | cpu
  /-- A peripheral raises its request (R310, R312). -/
  | request (src : PeriphSource)
  /-- The timer is advanced by a number of ticks (R341, R343). -/
  | timer (ticks : Nat)
  /-- A peripheral changes one of its register bytes, a video RAM byte or an OAM byte (R353). -/
  | device (addr : Word) (v : Byte)
  /-- The host reports the two button masks; the joypad latches them and may raise its request (R357). -/
  | buttons (dirs actions : BitVec 4)
  /-- A serial transfer ends with no cable attached (R358). -/
  | serialDone
  /-- A real-time-clock cartridge reads the host's clock (R386). -/
  | clock (seconds : Nat)
  /-- The host grants ticks (R33, R351). -/
  | emulate (ticks : Nat)
  /-- The host calls reset (R400). -/
  | reset
  deriving DecidableEq, Repr

/-- The state of the whole machine. -/
structure State where
  /-- The eight general registers (R20). Bits 3..0 of F read as 0 (R23). -/
  a : Byte
  f : Byte
  b : Byte
  c : Byte
  d : Byte
  e : Byte
  h : Byte
  l : Byte
  /-- Stack pointer (R26) and program counter (R27). -/
  sp : Word
  pc : Word
  /-- CPU control state (R29 to R34). -/
  ime : Bool
  halted : Bool
  eiInhibit : Bool
  haltBug : Bool
  budget : Int
  fault : Option InvalidOp
  /-- Interrupt controller: IE and the stored bits 4..0 of IF (R35, R36). -/
  ie : Byte
  iflag : BitVec 5
  /-- Timer (R38). -/
  div : Byte
  tima : Byte
  tma : Byte
  tac : BitVec 3
  divTicks : Int
  timaTicks : Int
  /-- The joypad's latched button masks, 0 = pressed (R357). -/
  joyDirs : BitVec 4
  joyActions : BitVec 4
  /-- Bytes stored since reset: on board by CPU address, cartridge RAM by RAM offset; the ROM image by ROM offset
  (R40, R70, R71). -/
  mem : Memory
  cartRam : Memory
  rom : Memory
  /-- MBC1 registers (R381, R383, R384), and what another controller has received (R386). -/
  ramOn : Bool
  bankLo : BitVec 5
  bankHi : BitVec 2
  bankMode : BitVec 1
  cartLog : List CartEvent
  /-- Configuration carried along: no step changes it (R41). -/
  cart : Cart
  params : Params
  /-- The model's own fields (log 10, 11, 3, 7). -/
  joypadWakeOnly : Bool
  pc0 : Word
  ramDraw : Nat
  schedule : List Move
  deriving DecidableEq, Repr

/-- Why a machine has no further step. -/
inductive Fault where
  /-- Raised by `step` alone, on a state whose `fault` records an invalid opcode: "A machine whose `fault` is not
  `none` takes no further step" (R34, R301). Safe: nothing runs on. -/
  | invalidOpcode (pc : Word) (op : Byte)
  deriving DecidableEq, Repr

/-- Why an instruction is given no meaning. -/
inductive Refusal where
  /-- Raised by a refused arm of `exec`: an instruction not modelled yet (no arm is refused in this model). Safe. -/
  | notModelled (mnemonic : String)
  /-- Raised by STOP alone, in a machine whose `STOP_BEHAVIOUR` is `refuse` (not the machine of `State.reset`, log 10):
  "A model marks the run as refused when it decodes 0x10 and derives nothing from that run" (R292). Safe. -/
  | stopRefused
  deriving DecidableEq, Repr

/-- What every meaning answers. -/
abbrev Res := Host.Outcome State Fault Refusal

/-- The state after `reset()` of a machine with parameters `p`, cartridge `cart` and ROM image `rom` (R42, R401): the
register file, control state, interrupt controller and timer at the parameters, the bank registers at R381, RAM at a
fresh draw (R402). `sched` is what is left of the schedule. -/
def State.resetWith (p : Params) (cart : Cart) (rom : Memory) (draw : Nat) (sched : List Move) : State where
  a := p.resetAF.extractLsb' 8 8
  f := p.resetAF.extractLsb' 0 8 &&& 0xF0
  b := p.resetBC.extractLsb' 8 8
  c := p.resetBC.extractLsb' 0 8
  d := p.resetDE.extractLsb' 8 8
  e := p.resetDE.extractLsb' 0 8
  h := p.resetHL.extractLsb' 8 8
  l := p.resetHL.extractLsb' 0 8
  sp := p.resetSP
  pc := p.resetPC
  ime := p.resetIME
  halted := false
  eiInhibit := false
  haltBug := false
  budget := 0
  fault := none
  ie := p.resetIE
  iflag := p.resetIF
  div := p.resetDIV
  tima := p.resetTIMA
  tma := p.resetTMA
  tac := p.resetTAC
  divTicks := p.resetDivTicks
  timaTicks := p.resetTimaTicks
  joyDirs := 0xF
  joyActions := 0xF
  mem := []
  cartRam := if cart.battery then cart.saved.getD [] else []
  rom := rom
  ramOn := false
  bankLo := 1
  bankHi := 0
  bankMode := 0
  cartLog := []
  cart := cart
  params := p
  joypadWakeOnly := false
  pc0 := p.resetPC
  ramDraw := draw
  schedule := sched

/-- The machine right after reset: R7's default parameters, but for STOP (log 10), no cartridge image loaded (log 5),
nothing listed in memory. -/
def State.reset : State := State.resetWith Params.atReset Cart.blank [] 0 []

end Sys2Proof.Machine
end

