-- ==== Sys2Proof/Machine/Mem.lean ====
section
/-! DEFINITION. Memories: reading and writing one byte of a sorted list of address and byte pairs, and the one
canonical form (`Memory.wf`). -/

namespace Sys2Proof.Machine

/-- The three memories of the machine (R40): bytes on board, cartridge RAM, the ROM image. -/
inductive Space where
  | onboard
  | cartRam
  | rom
  deriving DecidableEq, Repr

/-- What an address that a memory does not list holds. RAM: no stored byte, so a read answers the reset content, a
free value (R71, R402, log 3). ROM: 0xFF, what an address that no storage backs answers (R60, log 5). -/
def unlisted : Space → Option Byte
  | .onboard => none
  | .cartRam => none
  | .rom => some 0xFF

namespace Memory

/-- The byte listed at an address, if any. -/
def get? : Memory → Nat → Option Byte
  | [], _ => none
  | (k, v) :: rest, a => if k = a then some v else get? rest a

/-- Lists `v` at address `a`, keeping the addresses rising. -/
def set : Memory → Nat → Byte → Memory
  | [], a, v => [(a, v)]
  | (k, w) :: rest, a, v =>
    if a < k then (a, v) :: (k, w) :: rest
    else if k = a then (a, v) :: rest
    else (k, w) :: set rest a v

/-- Takes the entry of address `a` out. -/
def erase : Memory → Nat → Memory
  | [], _ => []
  | (k, w) :: rest, a => if k = a then rest else (k, w) :: erase rest a

/-- Stores a byte: an entry equal to what an unlisted address holds is not listed. -/
def store (sp : Space) (m : Memory) (a : Nat) (v : Byte) : Memory :=
  if unlisted sp = some v then m.erase a else m.set a v

/-- Every address of the list lies above `a`. -/
def above (a : Nat) : Memory → Bool
  | [] => true
  | (k, _) :: _ => decide (a < k)

/-- The canonical form: addresses strictly rising, and no entry equal to what an unlisted address holds. -/
def wf (sp : Space) : Memory → Bool
  | [] => true
  | (k, v) :: rest => above k rest && decide (unlisted sp ≠ some v) && wf sp rest

end Memory

end Sys2Proof.Machine
end

