-- ==== Sys2Proof/Machine/Flags.lean ====
section
/-! DEFINITION. The flags (R24, R25) and the ALU's shared routines with every flag computation of the spec. Each routine
forms the unbounded intermediate value first and narrows it at the end (R10). -/

namespace Sys2Proof.Machine

/-! ## The flag register (R23, R24) -/

/-- F from its four flags: Z in bit 7, N in bit 6, H in bit 5, Cy in bit 4, bits 3..0 zero. -/
def mkF (z n h cy : Bool) : Byte :=
  (if z then 0x80 else 0) ||| (if n then 0x40 else 0) ||| (if h then 0x20 else 0) ||| (if cy then 0x10 else 0)

/-- The flag Z, `F[7]`. -/
def State.zf (s : State) : Bool := s.f.getLsbD 7

/-- The flag N, `F[6]`. -/
def State.nf (s : State) : Bool := s.f.getLsbD 6

/-- The flag H, `F[5]`. -/
def State.hf (s : State) : Bool := s.f.getLsbD 5

/-- The flag Cy, `F[4]`. -/
def State.cf (s : State) : Bool := s.f.getLsbD 4

/-- F as PUSH AF reads it: bits 3..0 "always read as 0" (R23). -/
def State.readF (s : State) : Byte := s.f &&& 0xF0

/-- Writes all four flags. -/
def State.setFlags (s : State) (z n h cy : Bool) : State := { s with f := mkF z n h cy }

/-! ## 8-bit arithmetic and logic (R181 to R184) -/

/-- What an ALU routine computes: a result byte and the four flags. -/
structure AluOut where
  res : Byte
  z : Bool
  n : Bool
  h : Bool
  cy : Bool
  deriving DecidableEq, Repr

/-- Routine `add8(a, v, cin)` (R181). -/
def add8 (a v : Byte) (cin : Bool) : AluOut :=
  let t := a.toNat + v.toNat + cin.toNat
  { res := BitVec.ofNat 8 t
    z := decide (t % 256 = 0)
    n := false
    h := decide (a.toNat % 16 + v.toNat % 16 + cin.toNat > 0x0F)
    cy := decide (t > 0xFF) }

/-- Routine `sub8(a, v, cin)` (R182). -/
def sub8 (a v : Byte) (cin : Bool) : AluOut :=
  let t : Int := (a.toNat : Int) - v.toNat - cin.toNat
  { res := BitVec.ofInt 8 t
    z := decide (t % 256 = 0)
    n := true
    h := decide ((a.toNat % 16 : Int) - (v.toNat % 16 : Int) - cin.toNat < 0)
    cy := decide (t < 0) }

/-- Routine `and8` (R183). -/
def and8 (a v : Byte) : AluOut := { res := a &&& v, z := a &&& v == 0, n := false, h := true, cy := false }

/-- Routine `xor8` (R183). -/
def xor8 (a v : Byte) : AluOut := { res := a ^^^ v, z := a ^^^ v == 0, n := false, h := false, cy := false }

/-- Routine `or8` (R183). -/
def or8 (a v : Byte) : AluOut := { res := a ||| v, z := a ||| v == 0, n := false, h := false, cy := false }

/-- The ALU operation of a code of R108 on `a` and `v`, `cy` the old carry (R190 to R213). CP computes `sub8` (R211). -/
def aluOut (op : AluOp) (a v : Byte) (cy : Bool) : AluOut :=
  match op with
  | .add => add8 a v false
  | .adc => add8 a v cy
  | .sub => sub8 a v false
  | .sbc => sub8 a v cy
  | .and => and8 a v
  | .xor => xor8 a v
  | .or => or8 a v
  | .cp => sub8 a v false

/-- Routine `inc8` (R184); `cy` is the old carry, kept. -/
def inc8 (v : Byte) (cy : Bool) : AluOut :=
  { res := v + 1, z := v + 1 == 0, n := false, h := decide (v.toNat % 16 = 0xF), cy := cy }

/-- Routine `dec8` (R184); `cy` is the old carry, kept. -/
def dec8 (v : Byte) (cy : Bool) : AluOut :=
  { res := v - 1, z := v - 1 == 0, n := true, h := decide (v.toNat % 16 = 0), cy := cy }

/-- The decimal adjustment of R218: the corrected value before truncation and the new carry. -/
def daaAdjust (a : Byte) (n h cy : Bool) : Int × Bool :=
  let x : Int := a.toNat
  if n = false then
    let (x, c) := if cy ∨ x > 0x99 then (x + 0x60, true) else (x, cy)
    if h ∨ x % 16 > 0x09 then (x + 0x06, c) else (x, c)
  else
    let x := if cy then x - 0x60 else x
    let x := if h then x - 0x06 else x
    (x, cy)

/-- DAA (R218): Z from the new A, N unchanged, H cleared, Cy from the adjustment. -/
def daaOut (a : Byte) (n h cy : Bool) : AluOut :=
  let (x, c) := daaAdjust a n h cy
  { res := BitVec.ofInt 8 x, z := decide (x % 256 = 0), n := n, h := false, cy := c }

/-! ## Rotates, shifts, swap (R240) -/

/-- Result and carry out of the eight routines of R240, `cy` the old carry. -/
def rotate (op : RotOp) (v : Byte) (cy : Bool) : Byte × Bool :=
  let c : BitVec 1 := BitVec.ofBool cy
  match op with
  | .rlc => (v.extractLsb' 0 7 ++ v.extractLsb' 7 1, v.getLsbD 7)
  | .rrc => (v.extractLsb' 0 1 ++ v.extractLsb' 1 7, v.getLsbD 0)
  | .rl => (v.extractLsb' 0 7 ++ c, v.getLsbD 7)
  | .rr => (c ++ v.extractLsb' 1 7, v.getLsbD 0)
  | .sla => (v.extractLsb' 0 7 ++ (0 : BitVec 1), v.getLsbD 7)
  | .sra => (v.extractLsb' 7 1 ++ v.extractLsb' 1 7, v.getLsbD 0)
  | .swap => (v.extractLsb' 0 4 ++ v.extractLsb' 4 4, false)
  | .srl => ((0 : BitVec 1) ++ v.extractLsb' 1 7, v.getLsbD 0)

/-- A rotate of the prefixed page as an ALU result: Z from the result, N and H cleared, Cy the carry out (R240). -/
def rotOut (op : RotOp) (v : Byte) (cy : Bool) : AluOut :=
  let (r, co) := rotate op v cy
  { res := r, z := r == 0, n := false, h := false, cy := co }

/-! ## 16-bit additions -/

/-- What a 16-bit addition computes. -/
structure AddOut where
  res : Word
  h : Bool
  cy : Bool
  deriving DecidableEq, Repr

/-- The addition of `ADD HL,rr`: H is the carry out of bit 11, Cy the carry out of bit 15 (R231). -/
def add16 (a b : Word) : AddOut :=
  { res := BitVec.ofNat 16 (a.toNat + b.toNat)
    h := decide (a.toNat % 0x1000 + b.toNat % 0x1000 > 0x0FFF)
    cy := decide (a.toNat + b.toNat > 0xFFFF) }

/-- The addition of `ADD SP,e` and `LD HL,SP+e`: SP plus the sign-extended byte, H and Cy the carries out of bits 3 and
7 of the unsigned addition of the low byte of SP and `e` (R174, R234). -/
def addSpOffset (sp : Word) (e : Byte) : AddOut :=
  { res := sp + sext16 e
    h := decide (sp.toNat % 0x10 + e.toNat % 0x10 > 0x0F)
    cy := decide (sp.toNat % 0x100 + e.toNat > 0xFF) }

end Sys2Proof.Machine
end

