-- ==== Sys2Proof/Machine/Timer.lean ====
section
/-! DEFINITION. The interrupt controller's operations (R311) and the timer (R340 to R347). -/

namespace Sys2Proof.Machine

/-! ## Interrupt controller (R311) -/

/-- `raise(mask)`: `IF <- IF or (mask and 0x1F)`. -/
def State.raise (s : State) (mask : Byte) : State := { s with iflag := s.iflag ||| mask.extractLsb' 0 5 }

/-- `lower(mask)`: `IF <- IF and not mask`. -/
def State.lower (s : State) (mask : Byte) : State := { s with iflag := s.iflag &&& ~~~(mask.extractLsb' 0 5) }

/-- `IE and IF and 0x1F`: the sources that are pending and armed (R310). -/
def State.pendingArmed (s : State) : BitVec 5 := s.ie.extractLsb' 0 5 &&& s.iflag

/-- `isPending()`. -/
def State.isPending (s : State) : Bool := s.pendingArmed != 0

/-- `isPending(mask)`. -/
def State.isPendingMask (s : State) (mask : Byte) : Bool := s.pendingArmed &&& mask.extractLsb' 0 5 != 0

/-- The request bit of a peripheral source (R37). -/
def PeriphSource.mask : PeriphSource → Byte
  | .vblank => 0x01
  | .lcd => 0x02
  | .serial => 0x08
  | .joypad => 0x10

/-! ## The timer -/

/-- `period(TAC[1:0])` in ticks (R343). -/
def timerPeriod (tac : BitVec 3) : Nat :=
  match tac.toNat % 4 with
  | 0 => 1024
  | 1 => 16
  | 2 => 64
  | _ => 256

/-- `TAC[2]`, the enable bit (R343). -/
def timerEnabled (tac : BitVec 3) : Bool := tac.getLsbD 2

/-- How often the loop of R341 and R343 (`left <- left - n; while left <= 0: left <- left + period`) runs. -/
def periodsElapsed (left : Int) (n period : Nat) : Nat :=
  if left - n > 0 then 0 else ((n - left) / (period : Int)).toNat + 1

/-- Advances the divider by `n` ticks (R341). -/
def advanceDiv (n : Nat) (s : State) : State :=
  let k := periodsElapsed s.divTicks n 256
  { s with div := s.div + BitVec.ofNat 8 k, divTicks := s.divTicks - n + 256 * k }

/-- One increment of the programmable counter, with reload and request on overflow (R343, R344). -/
def timaIncrement (s : State) : State :=
  if s.tima = 0xFF then ({ s with tima := s.tma } : State).raise 0x04 else { s with tima := s.tima + 1 }

/-- `k` increments of the programmable counter. -/
def timaIncrements : Nat → State → State
  | 0, s => s
  | k + 1, s => timaIncrements k (timaIncrement s)

/-- Advances the programmable counter by `n` ticks, if it is enabled (R343). -/
def advanceTima (n : Nat) (s : State) : State :=
  if timerEnabled s.tac then
    let period := timerPeriod s.tac
    let k := periodsElapsed s.timaTicks n period
    timaIncrements k { s with timaTicks := s.timaTicks - n + period * k }
  else s

/-- Advances the timer by `n` ticks: two counters that share nothing (R340). -/
def advanceTimer (n : Nat) (s : State) : State := advanceTima n (advanceDiv n s)

/-- The timer's `cycles()`: the ticks until its next state change (R347). -/
def timerCycles (s : State) : Int := if timerEnabled s.tac then min s.divTicks s.timaTicks else s.divTicks

/-- The answer of a timer register, by its address (R38, R342, R345, R346). -/
def timerRead (s : State) (addr : Word) : Byte :=
  if addr = 0xFF04 then s.div
  else if addr = 0xFF05 then s.tima
  else if addr = 0xFF06 then s.tma
  else 0xF8 ||| s.tac.zeroExtend 8

/-- A write to a timer register, by its address: DIV becomes 0 (R342), TIMA and TMA store (R346), TAC stores bits 2..0
and restarts the counter's tick budget (R345). -/
def timerWrite (s : State) (addr : Word) (v : Byte) : State :=
  if addr = 0xFF04 then { s with div := 0 }
  else if addr = 0xFF05 then { s with tima := v }
  else if addr = 0xFF06 then { s with tma := v }
  else { s with tac := v.extractLsb' 0 3, timaTicks := timerPeriod (v.extractLsb' 0 3) }

end Sys2Proof.Machine
end

