-- ==== Sys2Proof/Machine/Bus.lean ====
section
/-! DEFINITION. The bus: the address decoder (R69, R70), the cartridge and its bank controllers (R72, R73, R381 to R386),
the peripheral registers (R60, R357, R363), and the access primitives MemRead, MemWrite and FetchRead (R60 to R62). -/

namespace Sys2Proof.Machine

/-! ## The address decoder -/

/-- The owner of an address (R70). -/
inductive Owner where
  | romFixed
  | romBanked
  | videoRam
  | cartRam
  | workRam
  | echo
  | oam
  | nobody
  | joypad
  | serial
  | timer
  | intFlag
  | apu
  | ppu
  | highRam
  | intEnable
  deriving DecidableEq, Repr

/-- "every address in 0x0000–0xFFFF resolves to exactly one owner" (R69): the ranges of R70. -/
def ownerOf (addr : Word) : Owner :=
  let n := addr.toNat
  if n < 0x4000 then .romFixed
  else if n < 0x8000 then .romBanked
  else if n < 0xA000 then .videoRam
  else if n < 0xC000 then .cartRam
  else if n < 0xE000 then .workRam
  else if n < 0xFE00 then .echo
  else if n < 0xFEA0 then .oam
  else if n < 0xFF00 then .nobody
  else if n < 0xFF01 then .joypad
  else if n < 0xFF03 then .serial
  else if n < 0xFF04 then .nobody
  else if n < 0xFF08 then .timer
  else if n < 0xFF0F then .nobody
  else if n < 0xFF10 then .intFlag
  else if n < 0xFF40 then .apu
  else if n < 0xFF4C then .ppu
  else if n < 0xFF80 then .nobody
  else if n < 0xFFFF then .highRam
  else .intEnable

/-! ## Storage -/

/-- The reset content of an on-board byte: RAM is drawn anew at each reset (R402), a peripheral register has one power-on
value (R401, R404, log 33). -/
def resetContent (draw n : Nat) : Byte :=
  if n < 0xFF00 ∨ 0xFF80 ≤ n then Config.resetByte draw n else Config.resetRegister n

/-- An on-board byte: the last byte stored since reset, or the reset content (R71). -/
def State.onboard (s : State) (n : Nat) : Byte := (s.mem.get? n).getD (resetContent s.ramDraw n)

/-- Stores an on-board byte (R71). -/
def State.setOnboard (s : State) (n : Nat) (v : Byte) : State := { s with mem := s.mem.store .onboard n v }

/-- A byte of cartridge RAM, by RAM offset (R73, R380). -/
def State.cartRamByte (s : State) (n : Nat) : Byte := (s.cartRam.get? n).getD (Config.resetCartRam s.ramDraw n)

/-- Stores a byte of cartridge RAM. -/
def State.setCartRamByte (s : State) (n : Nat) (v : Byte) : State :=
  { s with cartRam := s.cartRam.store .cartRam n v }

/-- A byte of a ROM image, by ROM offset; 0xFF where the image has none (log 5). -/
def romImageByte (rom : Memory) (n : Nat) : Byte := (rom.get? n).getD 0xFF

/-- A byte of the cartridge's ROM (R72). -/
def State.romByte (s : State) (n : Nat) : Byte := romImageByte s.rom n

/-! ## The cartridge -/

/-- `(bank_hi << 5) or bank_lo` (R384). -/
def State.bankNumber (s : State) : Nat := s.bankHi.toNat * 32 + s.bankLo.toNat

/-- The ROM bank that data reads see at 0x0000: bank 0, or on a ROM over 512 KB (32 banks) in mode 1
`(bank_hi << 5) mod ROM_BANKS` (R384, R424); under another controller bank 0 until a command (R72, log 14). -/
def State.lowBank (s : State) : Nat :=
  match s.cart.kind with
  | .romOnly => 0
  | .mbc1 | .huc1 =>
    if s.bankMode = 1 ∧ s.cart.romBanks > 32 then s.bankHi.toNat * 32 % s.cart.romBanks else 0
  | .other => if s.cartLog.any CartEvent.isCommand then Config.otherLowBank s.cartLog % s.cart.romBanks else 0

/-- The ROM bank at 0x4000 (R382, R384); every variant shows bank 1 after reset (R381). -/
def State.highBank (s : State) : Nat :=
  match s.cart.kind with
  | .romOnly => 1
  | .mbc1 | .huc1 => s.bankNumber % s.cart.romBanks
  | .other => if s.cartLog.any CartEvent.isCommand then Config.otherHighBank s.cartLog % s.cart.romBanks else 1

/-- A data read in 0x0000 to 0x7FFF (R72, R384). -/
def State.cartRomRead (s : State) (addr : Word) : Byte :=
  if addr.toNat < 0x4000 then s.romByte (s.lowBank * 0x4000 + addr.toNat)
  else s.romByte (s.highBank * 0x4000 + (addr.toNat - 0x4000))

/-- A write in 0x0000 to 0x7FFF is a bank-controller command (R72): none on ROM-only (R382), the four registers of
MBC1 and HuC1 (R383, R384), recorded for another controller (R386). -/
def State.cartCommand (s : State) (addr : Word) (v : Byte) : State :=
  match s.cart.kind with
  | .romOnly => s
  | .mbc1 | .huc1 =>
    if addr.toNat < 0x2000 then { s with ramOn := v.extractLsb' 0 4 == 0xA }
    else if addr.toNat < 0x4000 then
      { s with bankLo := if v.extractLsb' 0 5 = 0 then 1 else v.extractLsb' 0 5 }
    else if addr.toNat < 0x6000 then { s with bankHi := v.extractLsb' 0 2 }
    else { s with bankMode := v.extractLsb' 0 1 }
  | .other => { s with cartLog := s.cartLog ++ [.write addr v] }

/-- What the window 0xA000 to 0xBFFF shows. With no RAM banks nothing, and on MBC1 and HuC1 nothing while the latch is
off; their bank is `bank_hi` in mode 1 (R73, R383, R384). Another controller shows what it chooses (R386, log 14), RAM bank 0
if RAM until a command (R381). -/
def State.ramWindow (s : State) : RamWindow :=
  match s.cart.kind with
  | .romOnly => if s.cart.ramBanks = 0 then .closed else .ram 0
  | .mbc1 | .huc1 =>
    if s.cart.ramBanks = 0 then .closed
    else if s.ramOn then .ram (if s.bankMode = 1 then s.bankHi.toNat % s.cart.ramBanks else 0)
    else .closed
  | .other =>
    match Config.otherWindow s.cartLog with
    | .closed => .closed
    | .register => .register
    | .ram bank =>
      if s.cart.nibbleRam then .ram 0
      else if s.cart.ramBanks = 0 then .closed
      else .ram (if s.cartLog.any CartEvent.isCommand then bank % s.cart.ramBanks else 0)

/-- The cartridge has the 512×4-bit nibble RAM of one other variant (R380). -/
def State.hasNibbleRam (s : State) : Bool := s.cart.kind == .other && s.cart.nibbleRam

/-- The RAM offset that an address of the window reaches when it shows a RAM bank (R73). -/
def State.cartRamOffset (s : State) (bank : Nat) (addr : Word) : Nat :=
  if s.hasNibbleRam then Config.nibbleSlot addr.toNat % 512 else bank * 0x2000 + (addr.toNat - 0xA000)

/-- A read in 0xA000 to 0xBFFF (R73, R386). -/
def State.cartRamRead (s : State) (addr : Word) : Byte :=
  match s.ramWindow with
  | .closed => 0xFF
  | .register => Config.otherRegister s.cartLog addr.toNat
  | .ram bank =>
    let b := s.cartRamByte (s.cartRamOffset bank addr)
    if s.hasNibbleRam then Config.nibbleUpper addr.toNat ++ b.extractLsb' 0 4 else b

/-- A write in 0xA000 to 0xBFFF (R73, R386). -/
def State.cartRamWrite (s : State) (addr : Word) (v : Byte) : State :=
  match s.ramWindow with
  | .closed => s
  | .register => { s with cartLog := s.cartLog ++ [.write addr v] }
  | .ram bank => s.setCartRamByte (s.cartRamOffset bank addr) (if s.hasNibbleRam then v &&& 0x0F else v)

/-! ## Peripheral registers -/

/-- The bits a CPU write does not reach: STAT bits 2..0 and all of LY (R363); free for the others (log 12). -/
def periphReadOnly (n : Nat) : Byte :=
  if n = 0xFF41 then 0x07 else if n = 0xFF44 then 0xFF else Config.periphReadOnly n

/-- The bits that read as 1: STAT bit 7 (R60, R363), none of LY; free for the others (log 12). -/
def periphOnes (n : Nat) : Byte :=
  if n = 0xFF41 then 0x80 else if n = 0xFF44 then 0x00 else Config.periphOnes n

/-- Whether a register stands at an address of the serial port, the APU or the PPU: R76 lists none at 0xFF15, 0xFF1F and
0xFF27 to 0xFF2F of the APU's range. -/
def hasRegister (n : Nat) : Bool := !(n == 0xFF15 || n == 0xFF1F || (decide (0xFF27 ≤ n) && decide (n ≤ 0xFF2F)))

/-- The answer of the serial port, the APU or the PPU: the register's (R363), or 0xFF, the answer of "an address that no
readable storage or register backs" (R60). -/
def State.periphRead (s : State) (addr : Word) : Byte :=
  if hasRegister addr.toNat then s.onboard addr.toNat ||| periphOnes addr.toNat else 0xFF

/-- A CPU write there: the register's writable bits are stored (R363, R364), and without a register nothing (R61). -/
def State.periphWrite (s : State) (addr : Word) (v : Byte) : State :=
  let ro := periphReadOnly addr.toNat
  if hasRegister addr.toNat then s.setOnboard addr.toNat ((v &&& ~~~ro) ||| (s.onboard addr.toNat &&& ro)) else s

/-- The answer of P1: bits 7..6 read 1, bits 5..4 as written, bits 3..0 the selected group's latched mask, bit 5 = 0
selecting the action group and bit 4 = 0 the direction group (R357, log 13). -/
def State.joypadRead (s : State) : Byte :=
  let sel : BitVec 2 := (s.onboard 0xFF00).extractLsb' 4 2
  let nibble : BitVec 4 :=
    if sel = 0b01 then s.joyActions else if sel = 0b10 then s.joyDirs
    else Config.joyNibble sel s.joyDirs s.joyActions
  (0b11 : BitVec 2) ++ sel ++ nibble

/-! ## The access primitives -/

/-- `MemRead(addr, 1)` (R60). -/
def memRead (s : State) (addr : Word) : Byte :=
  match ownerOf addr with
  | .romFixed | .romBanked => s.cartRomRead addr
  | .videoRam | .workRam | .oam | .highRam => s.onboard addr.toNat
  | .echo => s.onboard (addr.toNat - 0x2000)
  | .cartRam => s.cartRamRead addr
  | .nobody => 0xFF
  | .joypad => s.joypadRead
  | .serial | .apu | .ppu => s.periphRead addr
  | .timer => timerRead s addr
  | .intFlag => s.params.ifUpperRead ++ s.iflag
  | .intEnable => s.ie

/-- `MemWrite(addr, 1, v)` (R61). -/
def memWrite (s : State) (addr : Word) (v : Byte) : State :=
  match ownerOf addr with
  | .romFixed | .romBanked => s.cartCommand addr v
  | .videoRam | .workRam | .oam | .highRam => s.setOnboard addr.toNat v
  | .echo => s.setOnboard (addr.toNat - 0x2000) v
  | .cartRam => s.cartRamWrite addr v
  | .nobody => s
  | .joypad => s.setOnboard 0xFF00 (v &&& 0x30)
  | .serial | .apu | .ppu => s.periphWrite addr v
  | .timer => timerWrite s addr v
  | .intFlag => { s with iflag := v.extractLsb' 0 5 }
  | .intEnable => { s with ie := v }

/-- `FetchRead(addr)`: ROM bank 0 directly up to 0x3FFF, the bus otherwise (R62, R424). -/
def fetchRead (s : State) (addr : Word) : Byte :=
  if addr.toNat ≤ 0x3FFF then s.romByte addr.toNat else memRead s addr

end Sys2Proof.Machine
end

