-- ==== Sys2Proof/Machine/Operands.lean ====
section
/-! DEFINITION. The register operand forms: `x[i]` (R9, R104), the pairs (R21), the codes rr and qq (R105, R106), and the
branch condition (R270). -/

namespace Sys2Proof.Machine

/-- `x[i]`: the register of an operand code (R104). -/
def State.reg8 (s : State) : Reg8 → Byte
  | .b => s.b
  | .c => s.c
  | .d => s.d
  | .e => s.e
  | .h => s.h
  | .l => s.l
  | .a => s.a

/-- `x[i] <- v` (R9). -/
def State.setReg8 (s : State) (r : Reg8) (v : Byte) : State :=
  match r with
  | .b => { s with b := v }
  | .c => { s with c := v }
  | .d => { s with d := v }
  | .e => { s with e := v }
  | .h => { s with h := v }
  | .l => { s with l := v }
  | .a => { s with a := v }

/-- The pair BC (R21). -/
def State.bc (s : State) : Word := mkWord s.b s.c

/-- The pair DE (R21). -/
def State.de (s : State) : Word := mkWord s.d s.e

/-- The pair HL (R21). -/
def State.hl (s : State) : Word := mkWord s.h s.l

/-- The pair AF as PUSH AF reads it (R21, R23). -/
def State.af (s : State) : Word := mkWord s.a s.readF

/-- `BC <- v` (R21). -/
def State.setBc (s : State) (v : Word) : State := { s with b := hi8 v, c := lo8 v }

/-- `DE <- v` (R21). -/
def State.setDe (s : State) (v : Word) : State := { s with d := hi8 v, e := lo8 v }

/-- `HL <- v` (R21). -/
def State.setHl (s : State) (v : Word) : State := { s with h := hi8 v, l := lo8 v }

/-- `AF <- v` as POP AF writes it: bits 3..0 of F are discarded (R23, R176). -/
def State.setAf (s : State) (v : Word) : State := { s with a := hi8 v, f := lo8 v &&& 0xF0 }

/-- The register of a code `rr` (R105). -/
def State.reg16 (s : State) : Reg16 → Word
  | .bc => s.bc
  | .de => s.de
  | .hl => s.hl
  | .sp => s.sp

/-- `rr <- v` (R105). -/
def State.setReg16 (s : State) (p : Reg16) (v : Word) : State :=
  match p with
  | .bc => s.setBc v
  | .de => s.setDe v
  | .hl => s.setHl v
  | .sp => { s with sp := v }

/-- The register pair of a code `qq` (R106). -/
def State.stackReg (s : State) : StackReg → Word
  | .bc => s.bc
  | .de => s.de
  | .hl => s.hl
  | .af => s.af

/-- `qq <- v` (R106, R176). -/
def State.setStackReg (s : State) (q : StackReg) (v : Word) : State :=
  match q with
  | .bc => s.setBc v
  | .de => s.setDe v
  | .hl => s.setHl v
  | .af => s.setAf v

/-- `cond(cc)` (R270). -/
def State.cond (s : State) : Cond → Bool
  | .nz => !s.zf
  | .z => s.zf
  | .nc => !s.cf
  | .c => s.cf

end Sys2Proof.Machine
end

