-- ==== Sys2Proof/Machine/Ops.lean ====
section
/-! DEFINITION. The operations the meanings share: ticks, the stack (R66, R67), fetching an instruction (R101, R102),
interrupt entry (R320), the return from an interrupt (R280), the invalid opcode (R295), and placing a program's bytes
where the machine fetches. -/

namespace Sys2Proof.Machine

/-- Subtracts a tick cost from the budget (R33, R322); the costs are non-binding (R430, log 25). -/
def State.spend (s : State) (ticks : Int) : State := { s with budget := s.budget - ticks }

/-! ## The stack -/

/-- `Push16(v)` (R66): the high byte first, at the higher address. -/
def push16 (s : State) (v : Word) : State :=
  let s := { s with sp := s.sp - 1 }
  let s := memWrite s s.sp (hi8 v)
  let s := { s with sp := s.sp - 1 }
  memWrite s s.sp (lo8 v)

/-- The value `Pop16()` reads: the low byte at SP, the high byte at SP + 1 (R67). -/
def popValue (s : State) : Word := mkWord (memRead s (s.sp + 1)) (memRead s s.sp)

/-- SP after `Pop16()` (R67). -/
def popped (s : State) : State := { s with sp := s.sp + 2 }

/-! ## Fetching -/

/-- The address of the byte after the opcode: under the halt bug the opcode fetch does not advance PC (R102). -/
def afterOpcode (s : State) : Word := if s.haltBug then s.pc else s.pc + 1

/-- The opcode byte (R101). -/
def fetchOpcode (s : State) : Byte := fetchRead s s.pc

/-- The instruction at PC. No read has a side effect (R68), so looking at three bytes is fetching as many as the
instruction has (log 27). -/
def fetchInstr (s : State) : Instr :=
  decodeOp (fetchOpcode s) (fetchRead s (afterOpcode s)) (fetchRead s (afterOpcode s + 1))

/-- The state in which a fetched instruction's rule begins: PC is the address of the next sequential instruction, the
halt bug is consumed, and `pc0` is the address the opcode was fetched from (R101, R102, R295). -/
def afterFetch (s : State) : State :=
  { s with
    pc := afterOpcode s + BitVec.ofNat 16 (instrLength (fetchOpcode s) - 1)
    haltBug := false
    pc0 := s.pc }

/-! ## Interrupts and the fatal error -/

/-- The lowest-numbered set bit, the source of highest priority (R320, R325). -/
def lowestBit (p : BitVec 5) : Nat :=
  if p.getLsbD 0 then 0 else if p.getLsbD 1 then 1 else if p.getLsbD 2 then 2 else if p.getLsbD 3 then 3 else 4

/-- `vector(i) = 0x0040 + 8 * i` (R321). -/
def vector (i : Nat) : Word := BitVec.ofNat 16 (0x0040 + 8 * i)

/-- `InterruptEntry()` (R320): the source is chosen from IE and IF as they are before the push (R427). -/
def interruptEntry (s : State) : State :=
  let i := lowestBit s.pendingArmed
  let s := { s with ime := false, halted := false, joypadWakeOnly := false }
  let s := push16 s s.pc
  let s := { s with pc := vector i }
  { s with iflag := s.iflag &&& ~~~((1 : BitVec 5) <<< i) }

/-- RETI's return: pops PC, enables interrupts, and lets one instruction run before the next check (R280, R328). -/
def interruptReturn (s : State) : State := { popped s with pc := popValue s, ime := true, eiInhibit := true }

/-- `raise InvalidOpcode(pc0, op)` (R295, R301): only the fault is recorded; the machine then has no further step. -/
def raiseInvalidOpcode (op : Byte) (s : State) : State := { s with fault := some ⟨s.pc0, op⟩ }

/-! ## Placing a program -/

/-- Puts a byte into the storage that FetchRead reads at an address, where there is storage (log 6). -/
def placeByte (s : State) (addr : Word) (v : Byte) : State :=
  if addr.toNat ≤ 0x3FFF then { s with rom := s.rom.store .rom addr.toNat v }
  else
    match ownerOf addr with
    | .romFixed | .romBanked =>
      { s with rom := s.rom.store .rom (s.highBank * 0x4000 + (addr.toNat - 0x4000)) v }
    | .videoRam | .workRam | .oam | .highRam => s.setOnboard addr.toNat v
    | .echo => s.setOnboard (addr.toNat - 0x2000) v
    | .cartRam => s.cartRamWrite addr v
    | .intEnable => { s with ie := v }
    | _ => s

/-- Places three bytes at PC and makes the CPU's next step fetch them: no agent moves before it, the CPU is neither
faulted nor halted, no halt bug is pending, and a pending interrupt is not accepted at this boundary (log 6). -/
def placeAtFetch (s : State) (bytes : List Byte) : State :=
  let s := placeByte s s.pc (bytes.getD 0 0)
  let s := placeByte s (s.pc + 1) (bytes.getD 1 0)
  let s := placeByte s (s.pc + 2) (bytes.getD 2 0)
  { s with
    schedule := []
    fault := none
    halted := false
    joypadWakeOnly := false
    haltBug := false
    eiInhibit := s.eiInhibit || (s.ime && s.isPending) }

end Sys2Proof.Machine
end

