-- ==== Sys2Proof/Machine/Alu16.lean ====
section
/-! DEFINITION. 16-bit arithmetic (R230 to R234). -/

namespace Sys2Proof.Machine

/-- `ADD HL,rr`: Z kept, N cleared (R231). -/
def addToHl (v : Word) (s : State) : Res :=
  let o := add16 s.hl v
  .next (((s.setHl o.res).setFlags s.zf false o.h o.cy).spend 8)

/-- `INC rr` and `DEC rr`: no flag (R232, R233). -/
def stepPair (p : Reg16) (v : Word) (s : State) : Res := .next ((s.setReg16 p v).spend 8)

/-- `ADD SP,e`: Z and N cleared, H and Cy of the low byte addition (R234). -/
def addToSp (e : Byte) (s : State) : Res :=
  let o := addSpOffset s.sp e
  .next ((({ s with sp := o.res } : State).setFlags false false o.h o.cy).spend 16)

/-- `INC BC` (R232). -/
def execIncBc (s : State) : Res := stepPair .bc (s.reg16 .bc + 1) s

/-- `ADD HL,BC` (R231). -/
def execAddHlBc (s : State) : Res := addToHl (s.reg16 .bc) s

/-- `DEC BC` (R233). -/
def execDecBc (s : State) : Res := stepPair .bc (s.reg16 .bc - 1) s

/-- `INC DE` (R232). -/
def execIncDe (s : State) : Res := stepPair .de (s.reg16 .de + 1) s

/-- `ADD HL,DE` (R231). -/
def execAddHlDe (s : State) : Res := addToHl (s.reg16 .de) s

/-- `DEC DE` (R233). -/
def execDecDe (s : State) : Res := stepPair .de (s.reg16 .de - 1) s

/-- `INC HL` (R232). -/
def execIncHl (s : State) : Res := stepPair .hl (s.reg16 .hl + 1) s

/-- `ADD HL,HL` (R231). -/
def execAddHlHl (s : State) : Res := addToHl (s.reg16 .hl) s

/-- `DEC HL` (R233). -/
def execDecHl (s : State) : Res := stepPair .hl (s.reg16 .hl - 1) s

/-- `INC SP` (R232). -/
def execIncSp (s : State) : Res := stepPair .sp (s.reg16 .sp + 1) s

/-- `ADD HL,SP` (R231). -/
def execAddHlSp (s : State) : Res := addToHl (s.reg16 .sp) s

/-- `DEC SP` (R233). -/
def execDecSp (s : State) : Res := stepPair .sp (s.reg16 .sp - 1) s

/-- `ADD SP,e` (R234). -/
def execAddSpE (e : Byte) (s : State) : Res := addToSp e s

end Sys2Proof.Machine
end

