-- ==== Sys2Proof/Machine/Alu8.lean ====
section
/-! DEFINITION. 8-bit arithmetic and logic (R180 to R221). -/

namespace Sys2Proof.Machine

/-- Writes the four flags of an ALU result. -/
def State.putFlags (s : State) (o : AluOut) : State := s.setFlags o.z o.n o.h o.cy

/-- A two-operand operation on A and `v`: A is the destination, except that CP discards its result (R180, R211). -/
def aluA (op : AluOp) (v : Byte) (ticks : Int) (s : State) : Res :=
  let o := aluOut op s.a v s.cf
  match op with
  | .cp => .next ((s.putFlags o).spend ticks)
  | _ => .next ((({ s with a := o.res } : State).putFlags o).spend ticks)

/-- A one-operand result back into a register (R214, R216, R218). -/
def updateReg (r : Reg8) (o : AluOut) (ticks : Int) (s : State) : Res :=
  .next (((s.setReg8 r o.res).putFlags o).spend ticks)

/-- A one-operand result back to the byte at HL (R215, R217). -/
def updateMem (o : AluOut) (ticks : Int) (s : State) : Res :=
  .next (((memWrite s s.hl o.res).putFlags o).spend ticks)

/-- `INC B` (R214). -/
def execIncB (s : State) : Res := updateReg .b (inc8 (s.reg8 .b) s.cf) 4 s

/-- `DEC B` (R216). -/
def execDecB (s : State) : Res := updateReg .b (dec8 (s.reg8 .b) s.cf) 4 s

/-- `INC C` (R214). -/
def execIncC (s : State) : Res := updateReg .c (inc8 (s.reg8 .c) s.cf) 4 s

/-- `DEC C` (R216). -/
def execDecC (s : State) : Res := updateReg .c (dec8 (s.reg8 .c) s.cf) 4 s

/-- `INC D` (R214). -/
def execIncD (s : State) : Res := updateReg .d (inc8 (s.reg8 .d) s.cf) 4 s

/-- `DEC D` (R216). -/
def execDecD (s : State) : Res := updateReg .d (dec8 (s.reg8 .d) s.cf) 4 s

/-- `INC E` (R214). -/
def execIncE (s : State) : Res := updateReg .e (inc8 (s.reg8 .e) s.cf) 4 s

/-- `DEC E` (R216). -/
def execDecE (s : State) : Res := updateReg .e (dec8 (s.reg8 .e) s.cf) 4 s

/-- `INC H` (R214). -/
def execIncH (s : State) : Res := updateReg .h (inc8 (s.reg8 .h) s.cf) 4 s

/-- `DEC H` (R216). -/
def execDecH (s : State) : Res := updateReg .h (dec8 (s.reg8 .h) s.cf) 4 s

/-- `DAA` (R218). -/
def execDaa (s : State) : Res := updateReg .a (daaOut s.a s.nf s.hf s.cf) 4 s

/-- `INC L` (R214). -/
def execIncL (s : State) : Res := updateReg .l (inc8 (s.reg8 .l) s.cf) 4 s

/-- `DEC L` (R216). -/
def execDecL (s : State) : Res := updateReg .l (dec8 (s.reg8 .l) s.cf) 4 s

/-- `CPL` (R219). -/
def execCpl (s : State) : Res := .next ((({ s with a := ~~~s.a } : State).setFlags s.zf true true s.cf).spend 4)

/-- `INC (HL)` (R215). -/
def execIncIndHl (s : State) : Res := updateMem (inc8 (memRead s s.hl) s.cf) 12 s

/-- `DEC (HL)` (R217). -/
def execDecIndHl (s : State) : Res := updateMem (dec8 (memRead s s.hl) s.cf) 12 s

/-- `SCF` (R220). -/
def execScf (s : State) : Res := .next ((s.setFlags s.zf false false true).spend 4)

/-- `INC A` (R214). -/
def execIncA (s : State) : Res := updateReg .a (inc8 (s.reg8 .a) s.cf) 4 s

/-- `DEC A` (R216). -/
def execDecA (s : State) : Res := updateReg .a (dec8 (s.reg8 .a) s.cf) 4 s

/-- `CCF` (R221). -/
def execCcf (s : State) : Res := .next ((s.setFlags s.zf false false (!s.cf)).spend 4)

/-- `ADD A,B` (R190). -/
def execAddAB (s : State) : Res := aluA .add (s.reg8 .b) 4 s

/-- `ADD A,C` (R190). -/
def execAddAC (s : State) : Res := aluA .add (s.reg8 .c) 4 s

/-- `ADD A,D` (R190). -/
def execAddAD (s : State) : Res := aluA .add (s.reg8 .d) 4 s

/-- `ADD A,E` (R190). -/
def execAddAE (s : State) : Res := aluA .add (s.reg8 .e) 4 s

/-- `ADD A,H` (R190). -/
def execAddAH (s : State) : Res := aluA .add (s.reg8 .h) 4 s

/-- `ADD A,L` (R190). -/
def execAddAL (s : State) : Res := aluA .add (s.reg8 .l) 4 s

/-- `ADD A,(HL)` (R191). -/
def execAddAIndHl (s : State) : Res := aluA .add (memRead s s.hl) 8 s

/-- `ADD A,A` (R190). -/
def execAddAA (s : State) : Res := aluA .add (s.reg8 .a) 4 s

/-- `ADC A,B` (R193). -/
def execAdcAB (s : State) : Res := aluA .adc (s.reg8 .b) 4 s

/-- `ADC A,C` (R193). -/
def execAdcAC (s : State) : Res := aluA .adc (s.reg8 .c) 4 s

/-- `ADC A,D` (R193). -/
def execAdcAD (s : State) : Res := aluA .adc (s.reg8 .d) 4 s

/-- `ADC A,E` (R193). -/
def execAdcAE (s : State) : Res := aluA .adc (s.reg8 .e) 4 s

/-- `ADC A,H` (R193). -/
def execAdcAH (s : State) : Res := aluA .adc (s.reg8 .h) 4 s

/-- `ADC A,L` (R193). -/
def execAdcAL (s : State) : Res := aluA .adc (s.reg8 .l) 4 s

/-- `ADC A,(HL)` (R194). -/
def execAdcAIndHl (s : State) : Res := aluA .adc (memRead s s.hl) 8 s

/-- `ADC A,A` (R193). -/
def execAdcAA (s : State) : Res := aluA .adc (s.reg8 .a) 4 s

/-- `SUB B` (R196). -/
def execSubB (s : State) : Res := aluA .sub (s.reg8 .b) 4 s

/-- `SUB C` (R196). -/
def execSubC (s : State) : Res := aluA .sub (s.reg8 .c) 4 s

/-- `SUB D` (R196). -/
def execSubD (s : State) : Res := aluA .sub (s.reg8 .d) 4 s

/-- `SUB E` (R196). -/
def execSubE (s : State) : Res := aluA .sub (s.reg8 .e) 4 s

/-- `SUB H` (R196). -/
def execSubH (s : State) : Res := aluA .sub (s.reg8 .h) 4 s

/-- `SUB L` (R196). -/
def execSubL (s : State) : Res := aluA .sub (s.reg8 .l) 4 s

/-- `SUB (HL)` (R197). -/
def execSubIndHl (s : State) : Res := aluA .sub (memRead s s.hl) 8 s

/-- `SUB A` (R196). -/
def execSubA (s : State) : Res := aluA .sub (s.reg8 .a) 4 s

/-- `SBC A,B` (R199). -/
def execSbcAB (s : State) : Res := aluA .sbc (s.reg8 .b) 4 s

/-- `SBC A,C` (R199). -/
def execSbcAC (s : State) : Res := aluA .sbc (s.reg8 .c) 4 s

/-- `SBC A,D` (R199). -/
def execSbcAD (s : State) : Res := aluA .sbc (s.reg8 .d) 4 s

/-- `SBC A,E` (R199). -/
def execSbcAE (s : State) : Res := aluA .sbc (s.reg8 .e) 4 s

/-- `SBC A,H` (R199). -/
def execSbcAH (s : State) : Res := aluA .sbc (s.reg8 .h) 4 s

/-- `SBC A,L` (R199). -/
def execSbcAL (s : State) : Res := aluA .sbc (s.reg8 .l) 4 s

/-- `SBC A,(HL)` (R200). -/
def execSbcAIndHl (s : State) : Res := aluA .sbc (memRead s s.hl) 8 s

/-- `SBC A,A` (R199). -/
def execSbcAA (s : State) : Res := aluA .sbc (s.reg8 .a) 4 s

/-- `AND B` (R202). -/
def execAndB (s : State) : Res := aluA .and (s.reg8 .b) 4 s

/-- `AND C` (R202). -/
def execAndC (s : State) : Res := aluA .and (s.reg8 .c) 4 s

/-- `AND D` (R202). -/
def execAndD (s : State) : Res := aluA .and (s.reg8 .d) 4 s

/-- `AND E` (R202). -/
def execAndE (s : State) : Res := aluA .and (s.reg8 .e) 4 s

/-- `AND H` (R202). -/
def execAndH (s : State) : Res := aluA .and (s.reg8 .h) 4 s

/-- `AND L` (R202). -/
def execAndL (s : State) : Res := aluA .and (s.reg8 .l) 4 s

/-- `AND (HL)` (R203). -/
def execAndIndHl (s : State) : Res := aluA .and (memRead s s.hl) 8 s

/-- `AND A` (R202). -/
def execAndA (s : State) : Res := aluA .and (s.reg8 .a) 4 s

/-- `XOR B` (R205). -/
def execXorB (s : State) : Res := aluA .xor (s.reg8 .b) 4 s

/-- `XOR C` (R205). -/
def execXorC (s : State) : Res := aluA .xor (s.reg8 .c) 4 s

/-- `XOR D` (R205). -/
def execXorD (s : State) : Res := aluA .xor (s.reg8 .d) 4 s

/-- `XOR E` (R205). -/
def execXorE (s : State) : Res := aluA .xor (s.reg8 .e) 4 s

/-- `XOR H` (R205). -/
def execXorH (s : State) : Res := aluA .xor (s.reg8 .h) 4 s

/-- `XOR L` (R205). -/
def execXorL (s : State) : Res := aluA .xor (s.reg8 .l) 4 s

/-- `XOR (HL)` (R206). -/
def execXorIndHl (s : State) : Res := aluA .xor (memRead s s.hl) 8 s

/-- `XOR A` (R205). -/
def execXorA (s : State) : Res := aluA .xor (s.reg8 .a) 4 s

/-- `OR B` (R208). -/
def execOrB (s : State) : Res := aluA .or (s.reg8 .b) 4 s

/-- `OR C` (R208). -/
def execOrC (s : State) : Res := aluA .or (s.reg8 .c) 4 s

/-- `OR D` (R208). -/
def execOrD (s : State) : Res := aluA .or (s.reg8 .d) 4 s

/-- `OR E` (R208). -/
def execOrE (s : State) : Res := aluA .or (s.reg8 .e) 4 s

/-- `OR H` (R208). -/
def execOrH (s : State) : Res := aluA .or (s.reg8 .h) 4 s

/-- `OR L` (R208). -/
def execOrL (s : State) : Res := aluA .or (s.reg8 .l) 4 s

/-- `OR (HL)` (R209). -/
def execOrIndHl (s : State) : Res := aluA .or (memRead s s.hl) 8 s

/-- `OR A` (R208). -/
def execOrA (s : State) : Res := aluA .or (s.reg8 .a) 4 s

/-- `CP B` (R211). -/
def execCpB (s : State) : Res := aluA .cp (s.reg8 .b) 4 s

/-- `CP C` (R211). -/
def execCpC (s : State) : Res := aluA .cp (s.reg8 .c) 4 s

/-- `CP D` (R211). -/
def execCpD (s : State) : Res := aluA .cp (s.reg8 .d) 4 s

/-- `CP E` (R211). -/
def execCpE (s : State) : Res := aluA .cp (s.reg8 .e) 4 s

/-- `CP H` (R211). -/
def execCpH (s : State) : Res := aluA .cp (s.reg8 .h) 4 s

/-- `CP L` (R211). -/
def execCpL (s : State) : Res := aluA .cp (s.reg8 .l) 4 s

/-- `CP (HL)` (R212). -/
def execCpIndHl (s : State) : Res := aluA .cp (memRead s s.hl) 8 s

/-- `CP A` (R211). -/
def execCpA (s : State) : Res := aluA .cp (s.reg8 .a) 4 s

/-- `ADD A,n` (R192). -/
def execAddAN (n : Byte) (s : State) : Res := aluA .add n 8 s

/-- `ADC A,n` (R195). -/
def execAdcAN (n : Byte) (s : State) : Res := aluA .adc n 8 s

/-- `SUB n` (R198). -/
def execSubN (n : Byte) (s : State) : Res := aluA .sub n 8 s

/-- `SBC A,n` (R201). -/
def execSbcAN (n : Byte) (s : State) : Res := aluA .sbc n 8 s

/-- `AND n` (R204). -/
def execAndN (n : Byte) (s : State) : Res := aluA .and n 8 s

/-- `XOR n` (R207). -/
def execXorN (n : Byte) (s : State) : Res := aluA .xor n 8 s

/-- `OR n` (R210). -/
def execOrN (n : Byte) (s : State) : Res := aluA .or n 8 s

/-- `CP n` (R213). -/
def execCpN (n : Byte) (s : State) : Res := aluA .cp n 8 s

end Sys2Proof.Machine
end

