-- ==== Sys2Proof/Machine/Control.lean ====
section
/-! DEFINITION. Jumps, calls, returns (R270 to R281). -/

namespace Sys2Proof.Machine

/-- `PC <- target` (R271 to R275). -/
def jumpTo (target : Word) (ticks : Int) (s : State) : Res := .next (({ s with pc := target } : State).spend ticks)

/-- `Push16(PC); PC <- target`: the pushed value is the address of the next sequential instruction (R276, R277, R281). -/
def callTo (target : Word) (ticks : Int) (s : State) : Res :=
  .next (({ push16 s s.pc with pc := target } : State).spend ticks)

/-- `PC <- Pop16()` (R278, R279). -/
def returnFrom (ticks : Int) (s : State) : Res := .next (({ popped s with pc := popValue s } : State).spend ticks)

/-- `JR e` (R274). -/
def execJrE (e : Byte) (s : State) : Res := jumpTo (s.pc + sext16 e) 12 s

/-- `JR NZ,e` (R275). -/
def execJrNzE (e : Byte) (s : State) : Res :=
  if s.cond .nz then jumpTo (s.pc + sext16 e) 12 s else .next (s.spend 8)

/-- `JR Z,e` (R275). -/
def execJrZE (e : Byte) (s : State) : Res := if s.cond .z then jumpTo (s.pc + sext16 e) 12 s else .next (s.spend 8)

/-- `JR NC,e` (R275). -/
def execJrNcE (e : Byte) (s : State) : Res :=
  if s.cond .nc then jumpTo (s.pc + sext16 e) 12 s else .next (s.spend 8)

/-- `JR C,e` (R275). -/
def execJrCE (e : Byte) (s : State) : Res := if s.cond .c then jumpTo (s.pc + sext16 e) 12 s else .next (s.spend 8)

/-- `RET NZ` (R279). -/
def execRetNz (s : State) : Res := if s.cond .nz then returnFrom 20 s else .next (s.spend 8)

/-- `JP NZ,nn` (R272). -/
def execJpNzNn (nn : Word) (s : State) : Res := if s.cond .nz then jumpTo nn 16 s else .next (s.spend 12)

/-- `JP nn` (R271). -/
def execJpNn (nn : Word) (s : State) : Res := jumpTo nn 16 s

/-- `CALL NZ,nn` (R277). -/
def execCallNzNn (nn : Word) (s : State) : Res := if s.cond .nz then callTo nn 24 s else .next (s.spend 12)

/-- `RST 00H` (R281). -/
def execRst00 (s : State) : Res := callTo 0x0000 16 s

/-- `RET Z` (R279). -/
def execRetZ (s : State) : Res := if s.cond .z then returnFrom 20 s else .next (s.spend 8)

/-- `RET` (R278). -/
def execRet (s : State) : Res := returnFrom 16 s

/-- `JP Z,nn` (R272). -/
def execJpZNn (nn : Word) (s : State) : Res := if s.cond .z then jumpTo nn 16 s else .next (s.spend 12)

/-- `CALL Z,nn` (R277). -/
def execCallZNn (nn : Word) (s : State) : Res := if s.cond .z then callTo nn 24 s else .next (s.spend 12)

/-- `CALL nn` (R276). -/
def execCallNn (nn : Word) (s : State) : Res := callTo nn 24 s

/-- `RST 08H` (R281). -/
def execRst08 (s : State) : Res := callTo 0x0008 16 s

/-- `RET NC` (R279). -/
def execRetNc (s : State) : Res := if s.cond .nc then returnFrom 20 s else .next (s.spend 8)

/-- `JP NC,nn` (R272). -/
def execJpNcNn (nn : Word) (s : State) : Res := if s.cond .nc then jumpTo nn 16 s else .next (s.spend 12)

/-- `CALL NC,nn` (R277). -/
def execCallNcNn (nn : Word) (s : State) : Res := if s.cond .nc then callTo nn 24 s else .next (s.spend 12)

/-- `RST 10H` (R281). -/
def execRst10 (s : State) : Res := callTo 0x0010 16 s

/-- `RET C` (R279). -/
def execRetC (s : State) : Res := if s.cond .c then returnFrom 20 s else .next (s.spend 8)

/-- `RETI` (R280). -/
def execReti (s : State) : Res := .next ((interruptReturn s).spend 16)

/-- `JP C,nn` (R272). -/
def execJpCNn (nn : Word) (s : State) : Res := if s.cond .c then jumpTo nn 16 s else .next (s.spend 12)

/-- `CALL C,nn` (R277). -/
def execCallCNn (nn : Word) (s : State) : Res := if s.cond .c then callTo nn 24 s else .next (s.spend 12)

/-- `RST 18H` (R281). -/
def execRst18 (s : State) : Res := callTo 0x0018 16 s

/-- `RST 20H` (R281). -/
def execRst20 (s : State) : Res := callTo 0x0020 16 s

/-- `JP HL` (R273). -/
def execJpHl (s : State) : Res := jumpTo s.hl 4 s

/-- `RST 28H` (R281). -/
def execRst28 (s : State) : Res := callTo 0x0028 16 s

/-- `RST 30H` (R281). -/
def execRst30 (s : State) : Res := callTo 0x0030 16 s

/-- `RST 38H` (R281). -/
def execRst38 (s : State) : Res := callTo 0x0038 16 s

end Sys2Proof.Machine
end

