-- ==== Sys2Proof/Machine/Load16.lean ====
section
/-! DEFINITION. The 16-bit loads and the stack instructions (R170 to R176). -/

namespace Sys2Proof.Machine

/-- `LD (nn),SP`: the low byte at nn, then the high byte at nn + 1 (R172). -/
def storeSp (nn : Word) (s : State) : Res :=
  .next ((memWrite (memWrite s nn (lo8 s.sp)) (nn + 1) (hi8 s.sp)).spend 20)

/-- `LD HL,SP+e`: Z and N cleared, H and Cy of the low byte addition (R174). -/
def loadHlSpOffset (e : Byte) (s : State) : Res :=
  let o := addSpOffset s.sp e
  .next (((s.setHl o.res).setFlags false false o.h o.cy).spend 12)

/-- `PUSH qq` (R175). -/
def pushReg (q : StackReg) (s : State) : Res := .next ((push16 s (s.stackReg q)).spend 16)

/-- `POP qq` (R176). -/
def popReg (q : StackReg) (s : State) : Res := .next (((popped s).setStackReg q (popValue s)).spend 12)

/-- `LD BC,nn` (R171). -/
def execLdBcNn (nn : Word) (s : State) : Res := .next ((s.setReg16 .bc nn).spend 12)

/-- `LD (nn),SP` (R172). -/
def execLdIndNnSp (nn : Word) (s : State) : Res := storeSp nn s

/-- `LD DE,nn` (R171). -/
def execLdDeNn (nn : Word) (s : State) : Res := .next ((s.setReg16 .de nn).spend 12)

/-- `LD HL,nn` (R171). -/
def execLdHlNn (nn : Word) (s : State) : Res := .next ((s.setReg16 .hl nn).spend 12)

/-- `LD SP,nn` (R171). -/
def execLdSpNn (nn : Word) (s : State) : Res := .next ((s.setReg16 .sp nn).spend 12)

/-- `POP BC` (R176). -/
def execPopBc (s : State) : Res := popReg .bc s

/-- `PUSH BC` (R175). -/
def execPushBc (s : State) : Res := pushReg .bc s

/-- `POP DE` (R176). -/
def execPopDe (s : State) : Res := popReg .de s

/-- `PUSH DE` (R175). -/
def execPushDe (s : State) : Res := pushReg .de s

/-- `POP HL` (R176). -/
def execPopHl (s : State) : Res := popReg .hl s

/-- `PUSH HL` (R175). -/
def execPushHl (s : State) : Res := pushReg .hl s

/-- `POP AF` (R176). -/
def execPopAf (s : State) : Res := popReg .af s

/-- `PUSH AF` (R175). -/
def execPushAf (s : State) : Res := pushReg .af s

/-- `LD HL,SP+e` (R174). -/
def execLdHlSpE (e : Byte) (s : State) : Res := loadHlSpOffset e s

/-- `LD SP,HL` (R173). -/
def execLdSpHl (s : State) : Res := .next (({ s with sp := s.hl } : State).spend 8)

end Sys2Proof.Machine
end

