-- ==== Sys2Proof/Machine/Load8.lean ====
section
/-! DEFINITION. The 8-bit loads (R140 to R159). No flag changes; every form reads its source before it writes (R140). -/

namespace Sys2Proof.Machine

/-- A load into a register (R141 to R143, R146, R147, R150, R152, R154). -/
def loadReg (dst : Reg8) (v : Byte) (ticks : Int) (s : State) : Res := .next ((s.setReg8 dst v).spend ticks)

/-- A store of one byte (R144, R145, R148, R149, R151, R153, R155). -/
def storeAt (addr : Word) (v : Byte) (ticks : Int) (s : State) : Res := .next ((memWrite s addr v).spend ticks)

/-- A store of A at HL, then HL moves on to `hl` (R156, R158). -/
def storeThenHl (hl : Word) (s : State) : Res := .next (((memWrite s s.hl s.a).setHl hl).spend 8)

/-- A load of A from HL, then HL moves on to `hl` (R157, R159). -/
def loadThenHl (hl : Word) (s : State) : Res := .next ((({ s with a := memRead s s.hl } : State).setHl hl).spend 8)

/-- `LD (BC),A` (R148). -/
def execLdIndBcA (s : State) : Res := storeAt s.bc s.a 8 s

/-- `LD B,n` (R142). -/
def execLdBN (n : Byte) (s : State) : Res := loadReg .b n 8 s

/-- `LD A,(BC)` (R146). -/
def execLdAIndBc (s : State) : Res := loadReg .a (memRead s s.bc) 8 s

/-- `LD C,n` (R142). -/
def execLdCN (n : Byte) (s : State) : Res := loadReg .c n 8 s

/-- `LD (DE),A` (R149). -/
def execLdIndDeA (s : State) : Res := storeAt s.de s.a 8 s

/-- `LD D,n` (R142). -/
def execLdDN (n : Byte) (s : State) : Res := loadReg .d n 8 s

/-- `LD A,(DE)` (R147). -/
def execLdAIndDe (s : State) : Res := loadReg .a (memRead s s.de) 8 s

/-- `LD E,n` (R142). -/
def execLdEN (n : Byte) (s : State) : Res := loadReg .e n 8 s

/-- `LD (HL+),A` (R156). -/
def execLdIndHlIncA (s : State) : Res := storeThenHl (s.hl + 1) s

/-- `LD H,n` (R142). -/
def execLdHN (n : Byte) (s : State) : Res := loadReg .h n 8 s

/-- `LD A,(HL+)` (R157). -/
def execLdAIndHlInc (s : State) : Res := loadThenHl (s.hl + 1) s

/-- `LD L,n` (R142). -/
def execLdLN (n : Byte) (s : State) : Res := loadReg .l n 8 s

/-- `LD (HL-),A` (R158). -/
def execLdIndHlDecA (s : State) : Res := storeThenHl (s.hl - 1) s

/-- `LD (HL),n` (R145). -/
def execLdIndHlN (n : Byte) (s : State) : Res := storeAt s.hl n 12 s

/-- `LD A,(HL-)` (R159). -/
def execLdAIndHlDec (s : State) : Res := loadThenHl (s.hl - 1) s

/-- `LD A,n` (R142). -/
def execLdAN (n : Byte) (s : State) : Res := loadReg .a n 8 s

/-- `LD B,B` (R141). -/
def execLdBB (s : State) : Res := loadReg .b (s.reg8 .b) 4 s

/-- `LD B,C` (R141). -/
def execLdBC (s : State) : Res := loadReg .b (s.reg8 .c) 4 s

/-- `LD B,D` (R141). -/
def execLdBD (s : State) : Res := loadReg .b (s.reg8 .d) 4 s

/-- `LD B,E` (R141). -/
def execLdBE (s : State) : Res := loadReg .b (s.reg8 .e) 4 s

/-- `LD B,H` (R141). -/
def execLdBH (s : State) : Res := loadReg .b (s.reg8 .h) 4 s

/-- `LD B,L` (R141). -/
def execLdBL (s : State) : Res := loadReg .b (s.reg8 .l) 4 s

/-- `LD B,(HL)` (R143). -/
def execLdBIndHl (s : State) : Res := loadReg .b (memRead s s.hl) 8 s

/-- `LD B,A` (R141). -/
def execLdBA (s : State) : Res := loadReg .b (s.reg8 .a) 4 s

/-- `LD C,B` (R141). -/
def execLdCB (s : State) : Res := loadReg .c (s.reg8 .b) 4 s

/-- `LD C,C` (R141). -/
def execLdCC (s : State) : Res := loadReg .c (s.reg8 .c) 4 s

/-- `LD C,D` (R141). -/
def execLdCD (s : State) : Res := loadReg .c (s.reg8 .d) 4 s

/-- `LD C,E` (R141). -/
def execLdCE (s : State) : Res := loadReg .c (s.reg8 .e) 4 s

/-- `LD C,H` (R141). -/
def execLdCH (s : State) : Res := loadReg .c (s.reg8 .h) 4 s

/-- `LD C,L` (R141). -/
def execLdCL (s : State) : Res := loadReg .c (s.reg8 .l) 4 s

/-- `LD C,(HL)` (R143). -/
def execLdCIndHl (s : State) : Res := loadReg .c (memRead s s.hl) 8 s

/-- `LD C,A` (R141). -/
def execLdCA (s : State) : Res := loadReg .c (s.reg8 .a) 4 s

/-- `LD D,B` (R141). -/
def execLdDB (s : State) : Res := loadReg .d (s.reg8 .b) 4 s

/-- `LD D,C` (R141). -/
def execLdDC (s : State) : Res := loadReg .d (s.reg8 .c) 4 s

/-- `LD D,D` (R141). -/
def execLdDD (s : State) : Res := loadReg .d (s.reg8 .d) 4 s

/-- `LD D,E` (R141). -/
def execLdDE (s : State) : Res := loadReg .d (s.reg8 .e) 4 s

/-- `LD D,H` (R141). -/
def execLdDH (s : State) : Res := loadReg .d (s.reg8 .h) 4 s

/-- `LD D,L` (R141). -/
def execLdDL (s : State) : Res := loadReg .d (s.reg8 .l) 4 s

/-- `LD D,(HL)` (R143). -/
def execLdDIndHl (s : State) : Res := loadReg .d (memRead s s.hl) 8 s

/-- `LD D,A` (R141). -/
def execLdDA (s : State) : Res := loadReg .d (s.reg8 .a) 4 s

/-- `LD E,B` (R141). -/
def execLdEB (s : State) : Res := loadReg .e (s.reg8 .b) 4 s

/-- `LD E,C` (R141). -/
def execLdEC (s : State) : Res := loadReg .e (s.reg8 .c) 4 s

/-- `LD E,D` (R141). -/
def execLdED (s : State) : Res := loadReg .e (s.reg8 .d) 4 s

/-- `LD E,E` (R141). -/
def execLdEE (s : State) : Res := loadReg .e (s.reg8 .e) 4 s

/-- `LD E,H` (R141). -/
def execLdEH (s : State) : Res := loadReg .e (s.reg8 .h) 4 s

/-- `LD E,L` (R141). -/
def execLdEL (s : State) : Res := loadReg .e (s.reg8 .l) 4 s

/-- `LD E,(HL)` (R143). -/
def execLdEIndHl (s : State) : Res := loadReg .e (memRead s s.hl) 8 s

/-- `LD E,A` (R141). -/
def execLdEA (s : State) : Res := loadReg .e (s.reg8 .a) 4 s

/-- `LD H,B` (R141). -/
def execLdHB (s : State) : Res := loadReg .h (s.reg8 .b) 4 s

/-- `LD H,C` (R141). -/
def execLdHC (s : State) : Res := loadReg .h (s.reg8 .c) 4 s

/-- `LD H,D` (R141). -/
def execLdHD (s : State) : Res := loadReg .h (s.reg8 .d) 4 s

/-- `LD H,E` (R141). -/
def execLdHE (s : State) : Res := loadReg .h (s.reg8 .e) 4 s

/-- `LD H,H` (R141). -/
def execLdHH (s : State) : Res := loadReg .h (s.reg8 .h) 4 s

/-- `LD H,L` (R141). -/
def execLdHL (s : State) : Res := loadReg .h (s.reg8 .l) 4 s

/-- `LD H,(HL)` (R143). -/
def execLdHIndHl (s : State) : Res := loadReg .h (memRead s s.hl) 8 s

/-- `LD H,A` (R141). -/
def execLdHA (s : State) : Res := loadReg .h (s.reg8 .a) 4 s

/-- `LD L,B` (R141). -/
def execLdLB (s : State) : Res := loadReg .l (s.reg8 .b) 4 s

/-- `LD L,C` (R141). -/
def execLdLC (s : State) : Res := loadReg .l (s.reg8 .c) 4 s

/-- `LD L,D` (R141). -/
def execLdLD (s : State) : Res := loadReg .l (s.reg8 .d) 4 s

/-- `LD L,E` (R141). -/
def execLdLE (s : State) : Res := loadReg .l (s.reg8 .e) 4 s

/-- `LD L,H` (R141). -/
def execLdLH (s : State) : Res := loadReg .l (s.reg8 .h) 4 s

/-- `LD L,L` (R141). -/
def execLdLL (s : State) : Res := loadReg .l (s.reg8 .l) 4 s

/-- `LD L,(HL)` (R143). -/
def execLdLIndHl (s : State) : Res := loadReg .l (memRead s s.hl) 8 s

/-- `LD L,A` (R141). -/
def execLdLA (s : State) : Res := loadReg .l (s.reg8 .a) 4 s

/-- `LD (HL),B` (R144). -/
def execLdIndHlB (s : State) : Res := storeAt s.hl (s.reg8 .b) 8 s

/-- `LD (HL),C` (R144). -/
def execLdIndHlC (s : State) : Res := storeAt s.hl (s.reg8 .c) 8 s

/-- `LD (HL),D` (R144). -/
def execLdIndHlD (s : State) : Res := storeAt s.hl (s.reg8 .d) 8 s

/-- `LD (HL),E` (R144). -/
def execLdIndHlE (s : State) : Res := storeAt s.hl (s.reg8 .e) 8 s

/-- `LD (HL),H` (R144). -/
def execLdIndHlH (s : State) : Res := storeAt s.hl (s.reg8 .h) 8 s

/-- `LD (HL),L` (R144). -/
def execLdIndHlL (s : State) : Res := storeAt s.hl (s.reg8 .l) 8 s

/-- `LD (HL),A` (R144). -/
def execLdIndHlA (s : State) : Res := storeAt s.hl (s.reg8 .a) 8 s

/-- `LD A,B` (R141). -/
def execLdAB (s : State) : Res := loadReg .a (s.reg8 .b) 4 s

/-- `LD A,C` (R141). -/
def execLdAC (s : State) : Res := loadReg .a (s.reg8 .c) 4 s

/-- `LD A,D` (R141). -/
def execLdAD (s : State) : Res := loadReg .a (s.reg8 .d) 4 s

/-- `LD A,E` (R141). -/
def execLdAE (s : State) : Res := loadReg .a (s.reg8 .e) 4 s

/-- `LD A,H` (R141). -/
def execLdAH (s : State) : Res := loadReg .a (s.reg8 .h) 4 s

/-- `LD A,L` (R141). -/
def execLdAL (s : State) : Res := loadReg .a (s.reg8 .l) 4 s

/-- `LD A,(HL)` (R143). -/
def execLdAIndHl (s : State) : Res := loadReg .a (memRead s s.hl) 8 s

/-- `LD A,A` (R141). -/
def execLdAA (s : State) : Res := loadReg .a (s.reg8 .a) 4 s

/-- `LDH (n),A` (R155). -/
def execLdhIndNA (n : Byte) (s : State) : Res := storeAt (highPage n) s.a 12 s

/-- `LDH (C),A` (R153). -/
def execLdhIndCA (s : State) : Res := storeAt (highPage s.c) s.a 8 s

/-- `LD (nn),A` (R151). -/
def execLdIndNnA (nn : Word) (s : State) : Res := storeAt nn s.a 16 s

/-- `LDH A,(n)` (R154). -/
def execLdhAIndN (n : Byte) (s : State) : Res := loadReg .a (memRead s (highPage n)) 12 s

/-- `LDH A,(C)` (R152). -/
def execLdhAIndC (s : State) : Res := loadReg .a (memRead s (highPage s.c)) 8 s

/-- `LD A,(nn)` (R150). -/
def execLdAIndNn (nn : Word) (s : State) : Res := loadReg .a (memRead s nn) 16 s

end Sys2Proof.Machine
end

