-- ==== Sys2Proof/Machine/RotShiftBit.lean ====
section
/-! DEFINITION. Rotates, shifts, swap, bit test, reset and set (R240 to R266), and the prefix row (R112). -/

namespace Sys2Proof.Machine

/-- A rotate of A by an unprefixed opcode: Z is forced to 0 (R240 to R244). -/
def rotateA (op : RotOp) (s : State) : Res :=
  let (r, co) := rotate op s.a s.cf
  .next ((({ s with a := r } : State).setFlags false false false co).spend 4)

/-- A rotate, shift or swap of a register (R240, R245 to R259). -/
def rotateReg (op : RotOp) (r : Reg8) (s : State) : Res :=
  let o := rotOut op (s.reg8 r) s.cf
  .next (((s.setReg8 r o.res).setFlags o.z o.n o.h o.cy).spend 8)

/-- A rotate, shift or swap of the byte at HL (R240, R246 to R260). -/
def rotateMem (op : RotOp) (s : State) : Res :=
  let o := rotOut op (memRead s s.hl) s.cf
  .next (((memWrite s s.hl o.res).setFlags o.z o.n o.h o.cy).spend 16)

/-- BIT: Z is the complement of the tested bit, N cleared, H set, Cy kept (R261, R262). -/
def testBit (k : Fin 8) (v : Byte) (ticks : Int) (s : State) : Res :=
  .next ((s.setFlags (!v.getLsbD k.val) false true s.cf).spend ticks)

/-- RES on a register (R263). -/
def resetBitReg (k : Fin 8) (r : Reg8) (s : State) : Res :=
  .next ((s.setReg8 r (s.reg8 r &&& ~~~bitMask k)).spend 8)

/-- RES on the byte at HL (R264). -/
def resetBitMem (k : Fin 8) (s : State) : Res :=
  .next ((memWrite s s.hl (memRead s s.hl &&& ~~~bitMask k)).spend 16)

/-- SET on a register (R265). -/
def setBitReg (k : Fin 8) (r : Reg8) (s : State) : Res := .next ((s.setReg8 r (s.reg8 r ||| bitMask k)).spend 8)

/-- SET on the byte at HL (R266). -/
def setBitMem (k : Fin 8) (s : State) : Res :=
  .next ((memWrite s s.hl (memRead s s.hl ||| bitMask k)).spend 16)

/-- What the prefix does with its second byte, by the fields of R109 (R112). -/
def cbPage (op2 : Byte) (s : State) : Res :=
  let y := fieldY op2
  let k := bitNumber y
  match fieldX op2, Opnd8.ofCode (fieldZ op2) with
  | 0, .reg r => rotateReg (RotOp.ofCode y) r s
  | 0, .indHl => rotateMem (RotOp.ofCode y) s
  | 1, .reg r => testBit k (s.reg8 r) 8 s
  | 1, .indHl => testBit k (memRead s s.hl) 12 s
  | 2, .reg r => resetBitReg k r s
  | 2, .indHl => resetBitMem k s
  | _, .reg r => setBitReg k r s
  | _, .indHl => setBitMem k s

/-- `RLCA` (R241). -/
def execRlca (s : State) : Res := rotateA .rlc s

/-- `RRCA` (R243). -/
def execRrca (s : State) : Res := rotateA .rrc s

/-- `RLA` (R242). -/
def execRla (s : State) : Res := rotateA .rl s

/-- `RRA` (R244). -/
def execRra (s : State) : Res := rotateA .rr s

/-- The prefix 0xCB (R112). -/
def execPrefixCb (op2 : Byte) (s : State) : Res := cbPage op2 s

/-- `RLC B` (R245). -/
def execRlcB (s : State) : Res := rotateReg .rlc .b s

/-- `RLC C` (R245). -/
def execRlcC (s : State) : Res := rotateReg .rlc .c s

/-- `RLC D` (R245). -/
def execRlcD (s : State) : Res := rotateReg .rlc .d s

/-- `RLC E` (R245). -/
def execRlcE (s : State) : Res := rotateReg .rlc .e s

/-- `RLC H` (R245). -/
def execRlcH (s : State) : Res := rotateReg .rlc .h s

/-- `RLC L` (R245). -/
def execRlcL (s : State) : Res := rotateReg .rlc .l s

/-- `RLC (HL)` (R246). -/
def execRlcIndHl (s : State) : Res := rotateMem .rlc s

/-- `RLC A` (R245). -/
def execRlcA (s : State) : Res := rotateReg .rlc .a s

/-- `RRC B` (R247). -/
def execRrcB (s : State) : Res := rotateReg .rrc .b s

/-- `RRC C` (R247). -/
def execRrcC (s : State) : Res := rotateReg .rrc .c s

/-- `RRC D` (R247). -/
def execRrcD (s : State) : Res := rotateReg .rrc .d s

/-- `RRC E` (R247). -/
def execRrcE (s : State) : Res := rotateReg .rrc .e s

/-- `RRC H` (R247). -/
def execRrcH (s : State) : Res := rotateReg .rrc .h s

/-- `RRC L` (R247). -/
def execRrcL (s : State) : Res := rotateReg .rrc .l s

/-- `RRC (HL)` (R248). -/
def execRrcIndHl (s : State) : Res := rotateMem .rrc s

/-- `RRC A` (R247). -/
def execRrcA (s : State) : Res := rotateReg .rrc .a s

/-- `RL B` (R249). -/
def execRlB (s : State) : Res := rotateReg .rl .b s

/-- `RL C` (R249). -/
def execRlC (s : State) : Res := rotateReg .rl .c s

/-- `RL D` (R249). -/
def execRlD (s : State) : Res := rotateReg .rl .d s

/-- `RL E` (R249). -/
def execRlE (s : State) : Res := rotateReg .rl .e s

/-- `RL H` (R249). -/
def execRlH (s : State) : Res := rotateReg .rl .h s

/-- `RL L` (R249). -/
def execRlL (s : State) : Res := rotateReg .rl .l s

/-- `RL (HL)` (R250). -/
def execRlIndHl (s : State) : Res := rotateMem .rl s

/-- `RL A` (R249). -/
def execRlA (s : State) : Res := rotateReg .rl .a s

/-- `RR B` (R251). -/
def execRrB (s : State) : Res := rotateReg .rr .b s

/-- `RR C` (R251). -/
def execRrC (s : State) : Res := rotateReg .rr .c s

/-- `RR D` (R251). -/
def execRrD (s : State) : Res := rotateReg .rr .d s

/-- `RR E` (R251). -/
def execRrE (s : State) : Res := rotateReg .rr .e s

/-- `RR H` (R251). -/
def execRrH (s : State) : Res := rotateReg .rr .h s

/-- `RR L` (R251). -/
def execRrL (s : State) : Res := rotateReg .rr .l s

/-- `RR (HL)` (R252). -/
def execRrIndHl (s : State) : Res := rotateMem .rr s

/-- `RR A` (R251). -/
def execRrA (s : State) : Res := rotateReg .rr .a s

/-- `SLA B` (R253). -/
def execSlaB (s : State) : Res := rotateReg .sla .b s

/-- `SLA C` (R253). -/
def execSlaC (s : State) : Res := rotateReg .sla .c s

/-- `SLA D` (R253). -/
def execSlaD (s : State) : Res := rotateReg .sla .d s

/-- `SLA E` (R253). -/
def execSlaE (s : State) : Res := rotateReg .sla .e s

/-- `SLA H` (R253). -/
def execSlaH (s : State) : Res := rotateReg .sla .h s

/-- `SLA L` (R253). -/
def execSlaL (s : State) : Res := rotateReg .sla .l s

/-- `SLA (HL)` (R254). -/
def execSlaIndHl (s : State) : Res := rotateMem .sla s

/-- `SLA A` (R253). -/
def execSlaA (s : State) : Res := rotateReg .sla .a s

/-- `SRA B` (R255). -/
def execSraB (s : State) : Res := rotateReg .sra .b s

/-- `SRA C` (R255). -/
def execSraC (s : State) : Res := rotateReg .sra .c s

/-- `SRA D` (R255). -/
def execSraD (s : State) : Res := rotateReg .sra .d s

/-- `SRA E` (R255). -/
def execSraE (s : State) : Res := rotateReg .sra .e s

/-- `SRA H` (R255). -/
def execSraH (s : State) : Res := rotateReg .sra .h s

/-- `SRA L` (R255). -/
def execSraL (s : State) : Res := rotateReg .sra .l s

/-- `SRA (HL)` (R256). -/
def execSraIndHl (s : State) : Res := rotateMem .sra s

/-- `SRA A` (R255). -/
def execSraA (s : State) : Res := rotateReg .sra .a s

/-- `SWAP B` (R257). -/
def execSwapB (s : State) : Res := rotateReg .swap .b s

/-- `SWAP C` (R257). -/
def execSwapC (s : State) : Res := rotateReg .swap .c s

/-- `SWAP D` (R257). -/
def execSwapD (s : State) : Res := rotateReg .swap .d s

/-- `SWAP E` (R257). -/
def execSwapE (s : State) : Res := rotateReg .swap .e s

/-- `SWAP H` (R257). -/
def execSwapH (s : State) : Res := rotateReg .swap .h s

/-- `SWAP L` (R257). -/
def execSwapL (s : State) : Res := rotateReg .swap .l s

/-- `SWAP (HL)` (R258). -/
def execSwapIndHl (s : State) : Res := rotateMem .swap s

/-- `SWAP A` (R257). -/
def execSwapA (s : State) : Res := rotateReg .swap .a s

/-- `SRL B` (R259). -/
def execSrlB (s : State) : Res := rotateReg .srl .b s

/-- `SRL C` (R259). -/
def execSrlC (s : State) : Res := rotateReg .srl .c s

/-- `SRL D` (R259). -/
def execSrlD (s : State) : Res := rotateReg .srl .d s

/-- `SRL E` (R259). -/
def execSrlE (s : State) : Res := rotateReg .srl .e s

/-- `SRL H` (R259). -/
def execSrlH (s : State) : Res := rotateReg .srl .h s

/-- `SRL L` (R259). -/
def execSrlL (s : State) : Res := rotateReg .srl .l s

/-- `SRL (HL)` (R260). -/
def execSrlIndHl (s : State) : Res := rotateMem .srl s

/-- `SRL A` (R259). -/
def execSrlA (s : State) : Res := rotateReg .srl .a s

/-- `BIT 0,B` (R261). -/
def execBit0B (s : State) : Res := testBit 0 (s.reg8 .b) 8 s

/-- `BIT 0,C` (R261). -/
def execBit0C (s : State) : Res := testBit 0 (s.reg8 .c) 8 s

/-- `BIT 0,D` (R261). -/
def execBit0D (s : State) : Res := testBit 0 (s.reg8 .d) 8 s

/-- `BIT 0,E` (R261). -/
def execBit0E (s : State) : Res := testBit 0 (s.reg8 .e) 8 s

/-- `BIT 0,H` (R261). -/
def execBit0H (s : State) : Res := testBit 0 (s.reg8 .h) 8 s

/-- `BIT 0,L` (R261). -/
def execBit0L (s : State) : Res := testBit 0 (s.reg8 .l) 8 s

/-- `BIT 0,(HL)` (R262). -/
def execBit0IndHl (s : State) : Res := testBit 0 (memRead s s.hl) 12 s

/-- `BIT 0,A` (R261). -/
def execBit0A (s : State) : Res := testBit 0 (s.reg8 .a) 8 s

/-- `BIT 1,B` (R261). -/
def execBit1B (s : State) : Res := testBit 1 (s.reg8 .b) 8 s

/-- `BIT 1,C` (R261). -/
def execBit1C (s : State) : Res := testBit 1 (s.reg8 .c) 8 s

/-- `BIT 1,D` (R261). -/
def execBit1D (s : State) : Res := testBit 1 (s.reg8 .d) 8 s

/-- `BIT 1,E` (R261). -/
def execBit1E (s : State) : Res := testBit 1 (s.reg8 .e) 8 s

/-- `BIT 1,H` (R261). -/
def execBit1H (s : State) : Res := testBit 1 (s.reg8 .h) 8 s

/-- `BIT 1,L` (R261). -/
def execBit1L (s : State) : Res := testBit 1 (s.reg8 .l) 8 s

/-- `BIT 1,(HL)` (R262). -/
def execBit1IndHl (s : State) : Res := testBit 1 (memRead s s.hl) 12 s

/-- `BIT 1,A` (R261). -/
def execBit1A (s : State) : Res := testBit 1 (s.reg8 .a) 8 s

/-- `BIT 2,B` (R261). -/
def execBit2B (s : State) : Res := testBit 2 (s.reg8 .b) 8 s

/-- `BIT 2,C` (R261). -/
def execBit2C (s : State) : Res := testBit 2 (s.reg8 .c) 8 s

/-- `BIT 2,D` (R261). -/
def execBit2D (s : State) : Res := testBit 2 (s.reg8 .d) 8 s

/-- `BIT 2,E` (R261). -/
def execBit2E (s : State) : Res := testBit 2 (s.reg8 .e) 8 s

/-- `BIT 2,H` (R261). -/
def execBit2H (s : State) : Res := testBit 2 (s.reg8 .h) 8 s

/-- `BIT 2,L` (R261). -/
def execBit2L (s : State) : Res := testBit 2 (s.reg8 .l) 8 s

/-- `BIT 2,(HL)` (R262). -/
def execBit2IndHl (s : State) : Res := testBit 2 (memRead s s.hl) 12 s

/-- `BIT 2,A` (R261). -/
def execBit2A (s : State) : Res := testBit 2 (s.reg8 .a) 8 s

/-- `BIT 3,B` (R261). -/
def execBit3B (s : State) : Res := testBit 3 (s.reg8 .b) 8 s

/-- `BIT 3,C` (R261). -/
def execBit3C (s : State) : Res := testBit 3 (s.reg8 .c) 8 s

/-- `BIT 3,D` (R261). -/
def execBit3D (s : State) : Res := testBit 3 (s.reg8 .d) 8 s

/-- `BIT 3,E` (R261). -/
def execBit3E (s : State) : Res := testBit 3 (s.reg8 .e) 8 s

/-- `BIT 3,H` (R261). -/
def execBit3H (s : State) : Res := testBit 3 (s.reg8 .h) 8 s

/-- `BIT 3,L` (R261). -/
def execBit3L (s : State) : Res := testBit 3 (s.reg8 .l) 8 s

/-- `BIT 3,(HL)` (R262). -/
def execBit3IndHl (s : State) : Res := testBit 3 (memRead s s.hl) 12 s

/-- `BIT 3,A` (R261). -/
def execBit3A (s : State) : Res := testBit 3 (s.reg8 .a) 8 s

/-- `BIT 4,B` (R261). -/
def execBit4B (s : State) : Res := testBit 4 (s.reg8 .b) 8 s

/-- `BIT 4,C` (R261). -/
def execBit4C (s : State) : Res := testBit 4 (s.reg8 .c) 8 s

/-- `BIT 4,D` (R261). -/
def execBit4D (s : State) : Res := testBit 4 (s.reg8 .d) 8 s

/-- `BIT 4,E` (R261). -/
def execBit4E (s : State) : Res := testBit 4 (s.reg8 .e) 8 s

/-- `BIT 4,H` (R261). -/
def execBit4H (s : State) : Res := testBit 4 (s.reg8 .h) 8 s

/-- `BIT 4,L` (R261). -/
def execBit4L (s : State) : Res := testBit 4 (s.reg8 .l) 8 s

/-- `BIT 4,(HL)` (R262). -/
def execBit4IndHl (s : State) : Res := testBit 4 (memRead s s.hl) 12 s

/-- `BIT 4,A` (R261). -/
def execBit4A (s : State) : Res := testBit 4 (s.reg8 .a) 8 s

/-- `BIT 5,B` (R261). -/
def execBit5B (s : State) : Res := testBit 5 (s.reg8 .b) 8 s

/-- `BIT 5,C` (R261). -/
def execBit5C (s : State) : Res := testBit 5 (s.reg8 .c) 8 s

/-- `BIT 5,D` (R261). -/
def execBit5D (s : State) : Res := testBit 5 (s.reg8 .d) 8 s

/-- `BIT 5,E` (R261). -/
def execBit5E (s : State) : Res := testBit 5 (s.reg8 .e) 8 s

/-- `BIT 5,H` (R261). -/
def execBit5H (s : State) : Res := testBit 5 (s.reg8 .h) 8 s

/-- `BIT 5,L` (R261). -/
def execBit5L (s : State) : Res := testBit 5 (s.reg8 .l) 8 s

/-- `BIT 5,(HL)` (R262). -/
def execBit5IndHl (s : State) : Res := testBit 5 (memRead s s.hl) 12 s

/-- `BIT 5,A` (R261). -/
def execBit5A (s : State) : Res := testBit 5 (s.reg8 .a) 8 s

/-- `BIT 6,B` (R261). -/
def execBit6B (s : State) : Res := testBit 6 (s.reg8 .b) 8 s

/-- `BIT 6,C` (R261). -/
def execBit6C (s : State) : Res := testBit 6 (s.reg8 .c) 8 s

/-- `BIT 6,D` (R261). -/
def execBit6D (s : State) : Res := testBit 6 (s.reg8 .d) 8 s

/-- `BIT 6,E` (R261). -/
def execBit6E (s : State) : Res := testBit 6 (s.reg8 .e) 8 s

/-- `BIT 6,H` (R261). -/
def execBit6H (s : State) : Res := testBit 6 (s.reg8 .h) 8 s

/-- `BIT 6,L` (R261). -/
def execBit6L (s : State) : Res := testBit 6 (s.reg8 .l) 8 s

/-- `BIT 6,(HL)` (R262). -/
def execBit6IndHl (s : State) : Res := testBit 6 (memRead s s.hl) 12 s

/-- `BIT 6,A` (R261). -/
def execBit6A (s : State) : Res := testBit 6 (s.reg8 .a) 8 s

/-- `BIT 7,B` (R261). -/
def execBit7B (s : State) : Res := testBit 7 (s.reg8 .b) 8 s

/-- `BIT 7,C` (R261). -/
def execBit7C (s : State) : Res := testBit 7 (s.reg8 .c) 8 s

/-- `BIT 7,D` (R261). -/
def execBit7D (s : State) : Res := testBit 7 (s.reg8 .d) 8 s

/-- `BIT 7,E` (R261). -/
def execBit7E (s : State) : Res := testBit 7 (s.reg8 .e) 8 s

/-- `BIT 7,H` (R261). -/
def execBit7H (s : State) : Res := testBit 7 (s.reg8 .h) 8 s

/-- `BIT 7,L` (R261). -/
def execBit7L (s : State) : Res := testBit 7 (s.reg8 .l) 8 s

/-- `BIT 7,(HL)` (R262). -/
def execBit7IndHl (s : State) : Res := testBit 7 (memRead s s.hl) 12 s

/-- `BIT 7,A` (R261). -/
def execBit7A (s : State) : Res := testBit 7 (s.reg8 .a) 8 s

/-- `RES 0,B` (R263). -/
def execRes0B (s : State) : Res := resetBitReg 0 .b s

/-- `RES 0,C` (R263). -/
def execRes0C (s : State) : Res := resetBitReg 0 .c s

/-- `RES 0,D` (R263). -/
def execRes0D (s : State) : Res := resetBitReg 0 .d s

/-- `RES 0,E` (R263). -/
def execRes0E (s : State) : Res := resetBitReg 0 .e s

/-- `RES 0,H` (R263). -/
def execRes0H (s : State) : Res := resetBitReg 0 .h s

/-- `RES 0,L` (R263). -/
def execRes0L (s : State) : Res := resetBitReg 0 .l s

/-- `RES 0,(HL)` (R264). -/
def execRes0IndHl (s : State) : Res := resetBitMem 0 s

/-- `RES 0,A` (R263). -/
def execRes0A (s : State) : Res := resetBitReg 0 .a s

/-- `RES 1,B` (R263). -/
def execRes1B (s : State) : Res := resetBitReg 1 .b s

/-- `RES 1,C` (R263). -/
def execRes1C (s : State) : Res := resetBitReg 1 .c s

/-- `RES 1,D` (R263). -/
def execRes1D (s : State) : Res := resetBitReg 1 .d s

/-- `RES 1,E` (R263). -/
def execRes1E (s : State) : Res := resetBitReg 1 .e s

/-- `RES 1,H` (R263). -/
def execRes1H (s : State) : Res := resetBitReg 1 .h s

/-- `RES 1,L` (R263). -/
def execRes1L (s : State) : Res := resetBitReg 1 .l s

/-- `RES 1,(HL)` (R264). -/
def execRes1IndHl (s : State) : Res := resetBitMem 1 s

/-- `RES 1,A` (R263). -/
def execRes1A (s : State) : Res := resetBitReg 1 .a s

/-- `RES 2,B` (R263). -/
def execRes2B (s : State) : Res := resetBitReg 2 .b s

/-- `RES 2,C` (R263). -/
def execRes2C (s : State) : Res := resetBitReg 2 .c s

/-- `RES 2,D` (R263). -/
def execRes2D (s : State) : Res := resetBitReg 2 .d s

/-- `RES 2,E` (R263). -/
def execRes2E (s : State) : Res := resetBitReg 2 .e s

/-- `RES 2,H` (R263). -/
def execRes2H (s : State) : Res := resetBitReg 2 .h s

/-- `RES 2,L` (R263). -/
def execRes2L (s : State) : Res := resetBitReg 2 .l s

/-- `RES 2,(HL)` (R264). -/
def execRes2IndHl (s : State) : Res := resetBitMem 2 s

/-- `RES 2,A` (R263). -/
def execRes2A (s : State) : Res := resetBitReg 2 .a s

/-- `RES 3,B` (R263). -/
def execRes3B (s : State) : Res := resetBitReg 3 .b s

/-- `RES 3,C` (R263). -/
def execRes3C (s : State) : Res := resetBitReg 3 .c s

/-- `RES 3,D` (R263). -/
def execRes3D (s : State) : Res := resetBitReg 3 .d s

/-- `RES 3,E` (R263). -/
def execRes3E (s : State) : Res := resetBitReg 3 .e s

/-- `RES 3,H` (R263). -/
def execRes3H (s : State) : Res := resetBitReg 3 .h s

/-- `RES 3,L` (R263). -/
def execRes3L (s : State) : Res := resetBitReg 3 .l s

/-- `RES 3,(HL)` (R264). -/
def execRes3IndHl (s : State) : Res := resetBitMem 3 s

/-- `RES 3,A` (R263). -/
def execRes3A (s : State) : Res := resetBitReg 3 .a s

/-- `RES 4,B` (R263). -/
def execRes4B (s : State) : Res := resetBitReg 4 .b s

/-- `RES 4,C` (R263). -/
def execRes4C (s : State) : Res := resetBitReg 4 .c s

/-- `RES 4,D` (R263). -/
def execRes4D (s : State) : Res := resetBitReg 4 .d s

/-- `RES 4,E` (R263). -/
def execRes4E (s : State) : Res := resetBitReg 4 .e s

/-- `RES 4,H` (R263). -/
def execRes4H (s : State) : Res := resetBitReg 4 .h s

/-- `RES 4,L` (R263). -/
def execRes4L (s : State) : Res := resetBitReg 4 .l s

/-- `RES 4,(HL)` (R264). -/
def execRes4IndHl (s : State) : Res := resetBitMem 4 s

/-- `RES 4,A` (R263). -/
def execRes4A (s : State) : Res := resetBitReg 4 .a s

/-- `RES 5,B` (R263). -/
def execRes5B (s : State) : Res := resetBitReg 5 .b s

/-- `RES 5,C` (R263). -/
def execRes5C (s : State) : Res := resetBitReg 5 .c s

/-- `RES 5,D` (R263). -/
def execRes5D (s : State) : Res := resetBitReg 5 .d s

/-- `RES 5,E` (R263). -/
def execRes5E (s : State) : Res := resetBitReg 5 .e s

/-- `RES 5,H` (R263). -/
def execRes5H (s : State) : Res := resetBitReg 5 .h s

/-- `RES 5,L` (R263). -/
def execRes5L (s : State) : Res := resetBitReg 5 .l s

/-- `RES 5,(HL)` (R264). -/
def execRes5IndHl (s : State) : Res := resetBitMem 5 s

/-- `RES 5,A` (R263). -/
def execRes5A (s : State) : Res := resetBitReg 5 .a s

/-- `RES 6,B` (R263). -/
def execRes6B (s : State) : Res := resetBitReg 6 .b s

/-- `RES 6,C` (R263). -/
def execRes6C (s : State) : Res := resetBitReg 6 .c s

/-- `RES 6,D` (R263). -/
def execRes6D (s : State) : Res := resetBitReg 6 .d s

/-- `RES 6,E` (R263). -/
def execRes6E (s : State) : Res := resetBitReg 6 .e s

/-- `RES 6,H` (R263). -/
def execRes6H (s : State) : Res := resetBitReg 6 .h s

/-- `RES 6,L` (R263). -/
def execRes6L (s : State) : Res := resetBitReg 6 .l s

/-- `RES 6,(HL)` (R264). -/
def execRes6IndHl (s : State) : Res := resetBitMem 6 s

/-- `RES 6,A` (R263). -/
def execRes6A (s : State) : Res := resetBitReg 6 .a s

/-- `RES 7,B` (R263). -/
def execRes7B (s : State) : Res := resetBitReg 7 .b s

/-- `RES 7,C` (R263). -/
def execRes7C (s : State) : Res := resetBitReg 7 .c s

/-- `RES 7,D` (R263). -/
def execRes7D (s : State) : Res := resetBitReg 7 .d s

/-- `RES 7,E` (R263). -/
def execRes7E (s : State) : Res := resetBitReg 7 .e s

/-- `RES 7,H` (R263). -/
def execRes7H (s : State) : Res := resetBitReg 7 .h s

/-- `RES 7,L` (R263). -/
def execRes7L (s : State) : Res := resetBitReg 7 .l s

/-- `RES 7,(HL)` (R264). -/
def execRes7IndHl (s : State) : Res := resetBitMem 7 s

/-- `RES 7,A` (R263). -/
def execRes7A (s : State) : Res := resetBitReg 7 .a s

/-- `SET 0,B` (R265). -/
def execSet0B (s : State) : Res := setBitReg 0 .b s

/-- `SET 0,C` (R265). -/
def execSet0C (s : State) : Res := setBitReg 0 .c s

/-- `SET 0,D` (R265). -/
def execSet0D (s : State) : Res := setBitReg 0 .d s

/-- `SET 0,E` (R265). -/
def execSet0E (s : State) : Res := setBitReg 0 .e s

/-- `SET 0,H` (R265). -/
def execSet0H (s : State) : Res := setBitReg 0 .h s

/-- `SET 0,L` (R265). -/
def execSet0L (s : State) : Res := setBitReg 0 .l s

/-- `SET 0,(HL)` (R266). -/
def execSet0IndHl (s : State) : Res := setBitMem 0 s

/-- `SET 0,A` (R265). -/
def execSet0A (s : State) : Res := setBitReg 0 .a s

/-- `SET 1,B` (R265). -/
def execSet1B (s : State) : Res := setBitReg 1 .b s

/-- `SET 1,C` (R265). -/
def execSet1C (s : State) : Res := setBitReg 1 .c s

/-- `SET 1,D` (R265). -/
def execSet1D (s : State) : Res := setBitReg 1 .d s

/-- `SET 1,E` (R265). -/
def execSet1E (s : State) : Res := setBitReg 1 .e s

/-- `SET 1,H` (R265). -/
def execSet1H (s : State) : Res := setBitReg 1 .h s

/-- `SET 1,L` (R265). -/
def execSet1L (s : State) : Res := setBitReg 1 .l s

/-- `SET 1,(HL)` (R266). -/
def execSet1IndHl (s : State) : Res := setBitMem 1 s

/-- `SET 1,A` (R265). -/
def execSet1A (s : State) : Res := setBitReg 1 .a s

/-- `SET 2,B` (R265). -/
def execSet2B (s : State) : Res := setBitReg 2 .b s

/-- `SET 2,C` (R265). -/
def execSet2C (s : State) : Res := setBitReg 2 .c s

/-- `SET 2,D` (R265). -/
def execSet2D (s : State) : Res := setBitReg 2 .d s

/-- `SET 2,E` (R265). -/
def execSet2E (s : State) : Res := setBitReg 2 .e s

/-- `SET 2,H` (R265). -/
def execSet2H (s : State) : Res := setBitReg 2 .h s

/-- `SET 2,L` (R265). -/
def execSet2L (s : State) : Res := setBitReg 2 .l s

/-- `SET 2,(HL)` (R266). -/
def execSet2IndHl (s : State) : Res := setBitMem 2 s

/-- `SET 2,A` (R265). -/
def execSet2A (s : State) : Res := setBitReg 2 .a s

/-- `SET 3,B` (R265). -/
def execSet3B (s : State) : Res := setBitReg 3 .b s

/-- `SET 3,C` (R265). -/
def execSet3C (s : State) : Res := setBitReg 3 .c s

/-- `SET 3,D` (R265). -/
def execSet3D (s : State) : Res := setBitReg 3 .d s

/-- `SET 3,E` (R265). -/
def execSet3E (s : State) : Res := setBitReg 3 .e s

/-- `SET 3,H` (R265). -/
def execSet3H (s : State) : Res := setBitReg 3 .h s

/-- `SET 3,L` (R265). -/
def execSet3L (s : State) : Res := setBitReg 3 .l s

/-- `SET 3,(HL)` (R266). -/
def execSet3IndHl (s : State) : Res := setBitMem 3 s

/-- `SET 3,A` (R265). -/
def execSet3A (s : State) : Res := setBitReg 3 .a s

/-- `SET 4,B` (R265). -/
def execSet4B (s : State) : Res := setBitReg 4 .b s

/-- `SET 4,C` (R265). -/
def execSet4C (s : State) : Res := setBitReg 4 .c s

/-- `SET 4,D` (R265). -/
def execSet4D (s : State) : Res := setBitReg 4 .d s

/-- `SET 4,E` (R265). -/
def execSet4E (s : State) : Res := setBitReg 4 .e s

/-- `SET 4,H` (R265). -/
def execSet4H (s : State) : Res := setBitReg 4 .h s

/-- `SET 4,L` (R265). -/
def execSet4L (s : State) : Res := setBitReg 4 .l s

/-- `SET 4,(HL)` (R266). -/
def execSet4IndHl (s : State) : Res := setBitMem 4 s

/-- `SET 4,A` (R265). -/
def execSet4A (s : State) : Res := setBitReg 4 .a s

/-- `SET 5,B` (R265). -/
def execSet5B (s : State) : Res := setBitReg 5 .b s

/-- `SET 5,C` (R265). -/
def execSet5C (s : State) : Res := setBitReg 5 .c s

/-- `SET 5,D` (R265). -/
def execSet5D (s : State) : Res := setBitReg 5 .d s

/-- `SET 5,E` (R265). -/
def execSet5E (s : State) : Res := setBitReg 5 .e s

/-- `SET 5,H` (R265). -/
def execSet5H (s : State) : Res := setBitReg 5 .h s

/-- `SET 5,L` (R265). -/
def execSet5L (s : State) : Res := setBitReg 5 .l s

/-- `SET 5,(HL)` (R266). -/
def execSet5IndHl (s : State) : Res := setBitMem 5 s

/-- `SET 5,A` (R265). -/
def execSet5A (s : State) : Res := setBitReg 5 .a s

/-- `SET 6,B` (R265). -/
def execSet6B (s : State) : Res := setBitReg 6 .b s

/-- `SET 6,C` (R265). -/
def execSet6C (s : State) : Res := setBitReg 6 .c s

/-- `SET 6,D` (R265). -/
def execSet6D (s : State) : Res := setBitReg 6 .d s

/-- `SET 6,E` (R265). -/
def execSet6E (s : State) : Res := setBitReg 6 .e s

/-- `SET 6,H` (R265). -/
def execSet6H (s : State) : Res := setBitReg 6 .h s

/-- `SET 6,L` (R265). -/
def execSet6L (s : State) : Res := setBitReg 6 .l s

/-- `SET 6,(HL)` (R266). -/
def execSet6IndHl (s : State) : Res := setBitMem 6 s

/-- `SET 6,A` (R265). -/
def execSet6A (s : State) : Res := setBitReg 6 .a s

/-- `SET 7,B` (R265). -/
def execSet7B (s : State) : Res := setBitReg 7 .b s

/-- `SET 7,C` (R265). -/
def execSet7C (s : State) : Res := setBitReg 7 .c s

/-- `SET 7,D` (R265). -/
def execSet7D (s : State) : Res := setBitReg 7 .d s

/-- `SET 7,E` (R265). -/
def execSet7E (s : State) : Res := setBitReg 7 .e s

/-- `SET 7,H` (R265). -/
def execSet7H (s : State) : Res := setBitReg 7 .h s

/-- `SET 7,L` (R265). -/
def execSet7L (s : State) : Res := setBitReg 7 .l s

/-- `SET 7,(HL)` (R266). -/
def execSet7IndHl (s : State) : Res := setBitMem 7 s

/-- `SET 7,A` (R265). -/
def execSet7A (s : State) : Res := setBitReg 7 .a s

end Sys2Proof.Machine
end

