-- ==== Sys2Proof/Machine/System.lean ====
section
/-! DEFINITION. NOP, HALT, STOP, DI, EI and the invalid opcodes (R290 to R295). -/

namespace Sys2Proof.Machine

/-- Whether HALT arms the halt bug, by `HALT_BUG_COND` (R291). -/
def haltArmsBug (s : State) : Bool :=
  match s.params.haltBugCond with
  | .imeClear => !s.ime
  | .imeClearAndPending => !s.ime && s.isPending

/-- HALT (R291): any request may end the halted state. -/
def enterHalt (s : State) : State :=
  { s with halted := true, haltBug := s.haltBug || haltArmsBug s, joypadWakeOnly := false }

/-- STOP, by `STOP_BEHAVIOUR` (R292): the run refused, a two-byte no-op, or a halted state without the halt bug that
only the joypad's request ends (log 10). -/
def stopOp (s : State) : Res :=
  match s.params.stopBehaviour with
  | .refuse => .refused .stopRefused
  | .nop2 => .next (s.spend 4)
  | .haltLike => .next (({ s with halted := true, joypadWakeOnly := true } : State).spend 4)

/-- `NOP` (R290). -/
def execNop (s : State) : Res := .next (s.spend 4)

/-- `STOP` (R292). -/
def execStop (_ : Byte) (s : State) : Res := stopOp s

/-- `HALT` (R291). -/
def execHalt (s : State) : Res := .next ((enterHalt s).spend 4)

/-- An invalid opcode (R295). -/
def execIllegal (op : Byte) (s : State) : Res := .next (raiseInvalidOpcode op s)

/-- `DI` (R293). -/
def execDi (s : State) : Res := .next (({ s with ime := false, eiInhibit := false } : State).spend 4)

/-- `EI` (R294). -/
def execEi (s : State) : Res := .next (({ s with ime := true, eiInhibit := true } : State).spend 4)

end Sys2Proof.Machine
end

