-- ==== Sys2Proof/Machine/Cycle.lean ====
section
/-! DEFINITION. The step of the CPU (R322), the moves of the other agents (R353), reset (R400, R401), and which agent moves
next. -/

namespace Sys2Proof.Machine

/-! ## The CPU -/

/-- The requests that can end the halted state: all five (R326), only the joypad's if STOP entered it (R292). -/
def wakeSources (s : State) : BitVec 5 := if s.joypadWakeOnly then 0b10000 else 0b11111

/-- `Wake()` (R326), by `HALT_WAKE`. -/
def wakes (s : State) : Bool :=
  match s.params.haltWake with
  | .ifAny => s.iflag &&& wakeSources s != 0
  | .ieAndIf => s.pendingArmed &&& wakeSources s != 0

/-- `if halted = 1 and Wake(): halted <- 0` (R322). -/
def wakeUp (s : State) : State :=
  if s.halted && wakes s then { s with halted := false, joypadWakeOnly := false } else s

/-- Whether an interrupt is accepted: `IME = 1` and a source pending and armed (R320, R322); never in a halted state
that only the joypad's request ends (R292, log 10). -/
def accepts (s : State) : Bool := s.ime && s.isPending && !(s.halted && s.joypadWakeOnly)

/-- The interrupt check of R322: the state after interrupt entry, or the state to go on from. -/
inductive Checked where
  | entered (s : State)
  | goOn (s : State)
  deriving DecidableEq, Repr

/-- The interrupt check (R322): the one check after EI or RETI is skipped; otherwise wake, then accept at most one. -/
def interruptCheck (s : State) : Checked :=
  if s.eiInhibit then .goOn { s with eiInhibit := false }
  else
    let s := wakeUp s
    if accepts s then .entered ((interruptEntry s).spend 20) else .goOn s

/-- Executes the instruction at PC (R101, R102, R116, R322). -/
def executeOne (s : State) : Res := exec (fetchInstr s) (afterFetch s)

/-- `CpuStep()` (R322): a faulted machine has no step; the interrupt check; an idle step of 4 ticks while halted (R327);
one instruction. -/
def cpuStep (s : State) : Res :=
  match s.fault with
  | some f => .fault (.invalidOpcode f.pc f.op)
  | none =>
    match interruptCheck s with
    | .entered t => .next t
    | .goOn t => if t.halted then .next (t.spend 4) else executeOne t

/-! ## The other agents -/

/-- The host's `reset()` (R400, R401): the cartridge, the ROM image and the parameters stay, every register takes its
reset value, and RAM is drawn anew (R402, log 23). -/
def hostReset (s : State) : State := State.resetWith s.params s.cart s.rom (s.ramDraw + 1) s.schedule

/-- A peripheral changes a byte of its own: a register of the serial port, APU or PPU, video RAM or OAM; it "never
changes CPU registers, `IME`, IE, work RAM or high RAM" (R353). -/
def deviceChange (addr : Word) (v : Byte) (s : State) : State :=
  match ownerOf addr with
  | .videoRam | .oam => s.setOnboard addr.toNat v
  | .serial | .apu | .ppu => if hasRegister addr.toNat then s.setOnboard addr.toNat v else s
  | _ => s

/-- The joypad latches the two button masks and raises its request (R357): always when a button is newly pressed (a bit
from 1 to 0), and on another change if `Config.joyReleaseRaises` (log 13). -/
def latchButtons (dirs actions : BitVec 4) (s : State) : State :=
  let pressed := s.joyDirs &&& ~~~dirs != 0 || s.joyActions &&& ~~~actions != 0
  let changed := s.joyDirs != dirs || s.joyActions != actions
  let t := { s with joyDirs := dirs, joyActions := actions }
  if pressed || (changed && Config.joyReleaseRaises) then t.raise PeriphSource.joypad.mask else t

/-- The effect of a move other than the CPU's. -/
def applyMove (m : Move) (s : State) : State :=
  match m with
  | .cpu => s
  | .request src => s.raise src.mask
  | .timer n => advanceTimer n s
  | .device addr v => deviceChange addr v s
  | .buttons dirs actions => latchButtons dirs actions s
  | .serialDone => (s.setOnboard 0xFF01 0xFF).raise 0x08
  | .clock seconds => { s with cartLog := s.cartLog ++ [.clock seconds] }
  | .emulate ticks => { s with budget := s.budget + ticks }
  | .reset => hostReset s

/-! ## Which agent moves next -/

/-- One step of the machine: the next move of the schedule, or the CPU's when the schedule is empty (log 7). On a faulted
machine only `reset()` is left (R301, R405). -/
def machineStep (s : State) : Res :=
  match s.schedule with
  | [] => cpuStep s
  | .cpu :: rest => cpuStep { s with schedule := rest }
  | .reset :: rest => .next (hostReset { s with schedule := rest })
  | m :: rest =>
    match s.fault with
    | some f => .fault (.invalidOpcode f.pc f.op)
    | none => .next (applyMove m { s with schedule := rest })

end Sys2Proof.Machine
end

