-- ==== Sys2Proof/Machine/Step.lean ====
section
/-! DEFINITION. The step of the machine, and placing a word of the opcode table where the step fetches. -/

namespace Sys2Proof.Machine

/-- One step of the machine (R322, R353). -/
def step (s : State) : Host.Outcome State Fault Refusal := machineStep s

/-- `s` with the instruction of a word of the opcode table placed at PC, so that the very next step runs it. It stands
for loading a program from outside the machine (log 6). -/
def State.withFetchWord (s : State) (nbits w : Nat) : State := placeAtFetch s (tableBytes nbits w)

end Sys2Proof.Machine
end

