-- ==== Sys2Proof/Machine/Loader.lean ====
section
/-! DEFINITION. Loading a cartridge (R302, R380, R385): the checks made before the first reset, and the machine a loaded
cartridge starts. -/

namespace Sys2Proof.Machine

/-- The reasons of MalformedCartridge (R302). -/
inductive LoadError where
  | badHeaderChecksum
  | badSize
  | unknownType
  deriving DecidableEq, Repr

/-- A ROM image as a memory, from its bytes in order. -/
def romOfBytes (image : List Byte) : Memory :=
  (image.zipIdx.foldl (fun m p => Memory.store .rom m p.2 p.1) [])

/-- The header checksum over 0x0134 to 0x014C: `x <- x - rom[a] - 1` (R385). -/
def headerChecksum (rom : Memory) : Byte :=
  (List.range 25).foldl (fun x k => x - romImageByte rom (0x134 + k) - 1) 0

/-- The ROM size in bytes of a ROM-size code: `32 KB << code` (R385), up to 8 MB, 512 banks (R380). -/
def romSizeOfCode (code : Byte) : Option Nat := if code.toNat ≤ 8 then some (0x8000 * 2 ^ code.toNat) else none

/-- The number of 8 KB RAM banks of a RAM-size code: codes 0, 2, 3, 4, 5 mean 0, 8, 32, 128, 64 KB (R385). -/
def ramBanksOfCode (code : Byte) : Option Nat :=
  match code.toNat with
  | 0 => some 0
  | 2 => some 1
  | 3 => some 4
  | 4 => some 16
  | 5 => some 8
  | _ => none

/-- The controller kind of a cartridge-type byte: 0x00 is ROM-only (R382); the other type bytes are not in the spec
(N13, log 24). -/
def kindOfType (b : Byte) : Option CartKind := if b = 0x00 then some .romOnly else Config.cartKind b

/-- The load-time checks and the cartridge they select (R385). `saved` is the persisted RAM image, if there is one. An image
of type 0x00 with a ROM-size code above 0 is accepted, and its banks above 1 are out of reach (DESIGN CHOICE, log 35). -/
def loadCart (image : List Byte) (saved : Option Memory) : Except LoadError (Cart × Memory) :=
  let rom := romOfBytes image
  match romSizeOfCode (romImageByte rom 0x148), ramBanksOfCode (romImageByte rom 0x149) with
  | some size, some ramBanks =>
    if image.length ≠ size then .error .badSize
    else if headerChecksum rom ≠ romImageByte rom 0x14D then .error .badHeaderChecksum
    else
      match kindOfType (romImageByte rom 0x147) with
      | none => .error .unknownType
      | some kind =>
        .ok ({ kind := kind, romBanks := size / 0x4000, ramBanks := ramBanks
               battery := Config.cartBattery (romImageByte rom 0x147), saved := saved
               nibbleRam := Config.cartNibbleRam (romImageByte rom 0x147) }, rom)
  | _, _ => .error .badSize

/-- The reset state of a machine with this cartridge (R302: "the machine is only ever started with a cartridge that
passed the checks"). -/
def startWith (p : Params) (image : List Byte) (saved : Option Memory) (sched : List Move) : Except LoadError State :=
  match loadCart image saved with
  | .ok (cart, rom) => .ok (State.resetWith p cart rom 0 sched)
  | .error e => .error e

end Sys2Proof.Machine
end

