-- ==== Sys2Proof/Machine/Scheduler.lean ====
section
/-! DEFINITION. The document's scheduling loop (R350, R351), as functions beside the step: the step lets the agents
interleave freely (R353, D27, log 8, log 9). -/

namespace Sys2Proof.Machine

/-- `while budget > 0 and fault = none: CpuStep()` (R351), for at most `fuel` steps. No agent moves between two of its steps
(R352), so within one slice a write to STAT never raises IF bit 1 here, where R364 lets it or not: the model's choice
(log 34). -/
def runBudget : Nat → State → Res
  | 0, s => .next s
  | fuel + 1, s =>
    if s.budget > 0 ∧ s.fault = none then
      match cpuStep s with
      | .next t => runBudget fuel t
      | .fault r => .fault r
      | .refused r => .refused r
    else .next s

/-- The interrupt check alone, made "even if `budget <= 0`" (R351). Right after EI or RETI there is none: `ei_inhibit`
holds until one more instruction has executed (R421, R422, D7), and here no instruction executes (log 30). -/
def checkOnly (s : State) : State :=
  match s.fault with
  | some _ => s
  | none =>
    if s.eiInhibit then s
    else
      match interruptCheck s with
      | .entered t => t
      | .goOn t => t

/-- `Cpu.emulate(n)` (R351), for at most `fuel` CPU steps. -/
def cpuEmulate (fuel n : Nat) (s : State) : Res :=
  let s := { s with budget := s.budget + n }
  if s.budget > 0 then runBudget fuel s else .next (checkOnly s)

/-- One slice of `Bus.emulate` (R350): the CPU runs until the earliest deadline, `others` being the least `cycles()` of
the peripherals other than the timer, and the timer is advanced strictly after it by the same ticks (R352). -/
def busSlice (fuel others : Nat) (s : State) : Res :=
  let n := min others (timerCycles s).toNat
  match cpuEmulate fuel n s with
  | .next t => .next (advanceTimer n t)
  | .fault r => .fault r
  | .refused r => .refused r

end Sys2Proof.Machine
end

