-- ==== Sys2Proof/Safety.lean ====
section
/-! DEFINITION. What counts as a safe state and a safe run, and the terms the claims use: the invariant, when the machine
fetches, and what an instruction leaves unchanged. -/

namespace Sys2Proof.Machine

/-! ## States -/

/-- The parameters are such as a machine can have: both tick counters start above 0 (R38). -/
def Params.Ok (p : Params) : Prop := 0 < p.resetDivTicks ∧ 0 < p.resetTimaTicks

/-- The cartridge's persisted RAM image is in canonical form. -/
def Cart.Ok (cart : Cart) : Prop := ∀ m, cart.saved = some m → Memory.wf .cartRam m = true

/-- What every state of the machine satisfies: bits 3..0 of F are 0 (R23), the three memories are in canonical form,
`bank_lo` is never 0 (R384), both tick counters are above 0 (R341, R343), and the configuration is one a machine can
have. -/
structure Inv (s : State) : Prop where
  flagsLow : s.f &&& 0x0F = 0
  memWf : Memory.wf .onboard s.mem = true
  cartRamWf : Memory.wf .cartRam s.cartRam = true
  romWf : Memory.wf .rom s.rom = true
  bankLoPos : s.bankLo ≠ 0
  divPos : 0 < s.divTicks
  timaPos : 0 < s.timaTicks
  paramsOk : Params.Ok s.params
  cartOk : Cart.Ok s.cart

/-- The CPU fetches at the next step: no other agent moves first, it is neither faulted nor halted, and no interrupt is
accepted at this boundary (R322). -/
structure Fetches (s : State) : Prop where
  schedule : s.schedule = []
  fault : s.fault = none
  halted : s.halted = false
  quiet : s.eiInhibit = true ∨ s.ime = false ∨ s.pendingArmed = 0

/-- A state in which the CPU steps next: no other agent moves first and no fault is recorded. -/
structure CpuMoves (s : State) : Prop where
  schedule : s.schedule = []
  fault : s.fault = none

/-! ## What differs between two states, and nothing else does -/

/-- Every byte of the address space reads as it did. -/
def SameReads (s t : State) : Prop := ∀ a, memRead t a = memRead s a

/-- Only A, B, C, D, E, H, L and the budget may differ. -/
def OnlyRegs (s t : State) : Prop :=
  t = { s with a := t.a, b := t.b, c := t.c, d := t.d, e := t.e, h := t.h, l := t.l, budget := t.budget } ∧
    SameReads s t

/-- Only A, B, C, D, E, H, L, F and the budget may differ. -/
def OnlyRegsFlags (s t : State) : Prop :=
  t = { s with
        a := t.a, f := t.f, b := t.b, c := t.c, d := t.d, e := t.e, h := t.h, l := t.l, budget := t.budget } ∧
    SameReads s t

/-- Only what a bus write can reach, and the budget, may differ: RAM and peripheral registers, the bank registers, the
timer's registers, IF and IE (R61, R70). No register of the CPU does. -/
def OnlyBus (s t : State) : Prop :=
  t = { s with
        mem := t.mem, cartRam := t.cartRam, ramOn := t.ramOn, bankLo := t.bankLo, bankHi := t.bankHi
        bankMode := t.bankMode, cartLog := t.cartLog, div := t.div, tima := t.tima, tma := t.tma, tac := t.tac
        timaTicks := t.timaTicks, iflag := t.iflag, ie := t.ie, budget := t.budget }

/-- The four flags of a state, and zeros below them (R23, R24). -/
def HasFlags (t : State) (z n h cy : Bool) : Prop :=
  t.f.getLsbD 7 = z ∧ t.f.getLsbD 6 = n ∧ t.f.getLsbD 5 = h ∧ t.f.getLsbD 4 = cy ∧ t.f &&& 0x0F = 0

/-- Every register but `r` holds what it held. -/
def OtherRegs (s t : State) (r : Reg8) : Prop := ∀ q, q ≠ r → t.reg8 q = s.reg8 q

/-! ## The bytes a store reaches -/

/-- The address under which a byte is stored: the echo of work RAM is work RAM (R70). -/
def homeOf (a : Word) : Nat := if ownerOf a = .echo then a.toNat - 0x2000 else a.toNat

/-- The address lies in the cartridge's windows (R70). -/
def InCartridge (a : Word) : Prop := ownerOf a = .romFixed ∨ ownerOf a = .romBanked ∨ ownerOf a = .cartRam

/-- The address is plain RAM to the CPU: video RAM, work RAM or its echo, OAM, high RAM (R71, R74). -/
def InRam (a : Word) : Prop :=
  ownerOf a = .videoRam ∨ ownerOf a = .workRam ∨ ownerOf a = .echo ∨ ownerOf a = .oam ∨ ownerOf a = .highRam

/-- A store at this address is no command to a bank controller (R72, R386). -/
def PlainStore (s : State) (x : Word) : Prop := 0x8000 ≤ x.toNat ∧ (ownerOf x = .cartRam → s.cart.kind ≠ .other)

/-- What stores at `addrs` leave unchanged: ROM (R72); cartridge RAM, if none of them lies in its window; every byte
outside the cartridge that is none of theirs; if none of them is a bank-controller command, every byte at all that is none
of theirs; the bank registers, unless one of them lies in the ROM ranges; and the counter's tick budget, unless one of
them is TAC (R345). -/
structure StoreFrame (s t : State) (addrs : List Word) : Prop where
  rom : t.rom = s.rom
  cartRam : (∀ x ∈ addrs, ownerOf x ≠ .cartRam) → t.cartRam = s.cartRam
  board : ∀ a, ¬ InCartridge a → (∀ x ∈ addrs, homeOf a ≠ homeOf x) → memRead t a = memRead s a
  plain : (∀ x ∈ addrs, PlainStore s x) → ∀ a, (∀ x ∈ addrs, homeOf a ≠ homeOf x) → memRead t a = memRead s a
  banks : (∀ x ∈ addrs, 0x8000 ≤ x.toNat) →
    t.ramOn = s.ramOn ∧ t.bankLo = s.bankLo ∧ t.bankHi = s.bankHi ∧ t.bankMode = s.bankMode
  cartLog : (∀ x ∈ addrs, PlainStore s x) → t.cartLog = s.cartLog
  ticks : (∀ x ∈ addrs, x ≠ 0xFF07) → t.timaTicks = s.timaTicks

/-! ## What the other agents do -/

/-- What a move of the environment or the host other than `reset()` does, from `s` to `t` (R353): a peripheral sets its one
request bit (R37, R312); the timer advances (R340); a peripheral changes one byte of its own, video RAM, OAM or a
register; the joypad latches the masks (R357); a transfer ends, SB reads 0xFF and the serial request is raised (R358); a
real-time clock is read (R386); ticks are granted (R33). -/
def MoveEffect (s t : State) : Move → Prop
  | .cpu | .reset => True
  | .request .vblank => t = { s with iflag := s.iflag ||| 0b00001 }
  | .request .lcd => t = { s with iflag := s.iflag ||| 0b00010 }
  | .request .serial => t = { s with iflag := s.iflag ||| 0b01000 }
  | .request .joypad => t = { s with iflag := s.iflag ||| 0b10000 }
  | .timer n => t = advanceTimer n s
  | .device addr v =>
    t = { s with mem := t.mem } ∧ (∀ a, homeOf a ≠ addr.toNat → memRead t a = memRead s a) ∧
    (ownerOf addr = .videoRam ∨ ownerOf addr = .oam → memRead t addr = v) ∧
    (ownerOf addr = .serial ∨ ownerOf addr = .apu ∨ ownerOf addr = .ppu →
      if hasRegister addr.toNat then memRead t addr = v ||| periphOnes addr.toNat else t = s) ∧
    (ownerOf addr ∉ [.videoRam, .oam, .serial, .apu, .ppu] → t = s)
  | .buttons dirs actions =>
    t = { s with joyDirs := dirs, joyActions := actions, iflag := t.iflag } ∧
    ∀ i, i ≠ 4 → t.iflag.getLsbD i = s.iflag.getLsbD i
  | .serialDone =>
    t = { s with mem := t.mem, iflag := s.iflag ||| 0b01000 } ∧ memRead t 0xFF01 = 0xFF ∧
    ∀ a, a ≠ 0xFF01 → a ≠ 0xFF0F → memRead t a = memRead s a
  | .clock seconds => t = { s with cartLog := s.cartLog ++ [.clock seconds] }
  | .emulate ticks => t = { s with budget := s.budget + ticks }

/-! ## What an instruction does -/

/-- The instruction completes, and `P` holds of the next state. -/
def Runs (i : Instr) (s : State) (P : State → Prop) : Prop := ∃ t, exec i s = .next t ∧ P t

/-- `t` is `s` with register `r` loaded, at a cost in ticks, and nothing else changed. -/
structure Loads (s t : State) (r : Reg8) (v : Byte) (ticks : Int) : Prop where
  value : t.reg8 r = v
  others : OtherRegs s t r
  budget : t.budget = s.budget - ticks
  frame : OnlyRegs s t

/-- `t` is `s` with a result in register `r` and the four flags written, at a cost in ticks, and nothing else
changed. -/
structure Computes (s t : State) (r : Reg8) (res : Int) (z n h cy : Bool) (ticks : Int) : Prop where
  value : ((t.reg8 r).toNat : Int) = res
  flags : HasFlags t z n h cy
  others : OtherRegs s t r
  budget : t.budget = s.budget - ticks
  frame : OnlyRegsFlags s t

/-- `t` is `s` with the four flags written, at a cost in ticks, and nothing else changed. -/
structure FlagsOnly (s t : State) (z n h cy : Bool) (ticks : Int) : Prop where
  flags : HasFlags t z n h cy
  budget : t.budget = s.budget - ticks
  frame : t = { s with f := t.f, budget := t.budget } ∧ SameReads s t

/-- `t` is `s` with one of the 16-bit registers of R105 loaded, at a cost in ticks, and nothing else changed. -/
structure LoadsPair (s t : State) (p : Reg16) (v : Word) (ticks : Int) : Prop where
  value : t.reg16 p = v
  others : ∀ q, q ≠ p → t.reg16 q = s.reg16 q
  frame : t = { s with
      b := t.b, c := t.c, d := t.d, e := t.e, h := t.h, l := t.l, sp := t.sp, budget := s.budget - ticks } ∧
    SameReads s t

/-- `t` is `s` after one byte store, at a cost in ticks, and nothing else changed. -/
structure Stores (s t : State) (addr : Word) (v : Byte) (ticks : Int) : Prop where
  store : t = { memWrite s addr v with budget := s.budget - ticks }
  frame : OnlyBus s t
  bytes : StoreFrame s t [addr]

/-- `t` is `s` after one byte store and with the four flags written, at a cost in ticks, and nothing else changed. -/
structure StoresFlags (s t : State) (addr : Word) (v : Byte) (z n h cy : Bool) (ticks : Int) : Prop where
  store : t = { memWrite s addr v with f := t.f, budget := s.budget - ticks }
  flags : HasFlags t z n h cy
  frame : OnlyBus { s with f := t.f } t
  bytes : StoreFrame s t [addr]

/-- `t` is `s` after `Push16(v)`, PC moved to `pc`, at a cost in ticks, and nothing else changed (R66). -/
structure Pushes (s t : State) (v pc : Word) (ticks : Int) : Prop where
  store :
    t = { memWrite (memWrite s (s.sp - 1) (v.extractLsb' 8 8)) (s.sp - 2) (v.extractLsb' 0 8) with
          sp := s.sp - 2, pc := pc, budget := s.budget - ticks }
  frame : OnlyBus { s with sp := s.sp - 2, pc := pc } t
  bytes : StoreFrame s t [s.sp - 1, s.sp - 2]

/-- Bit `i` of the result of a rotate, shift or swap, from the bits of `v` and the old carry (R240). -/
def rotatedBit (op : RotOp) (v : Byte) (cy : Bool) (i : Nat) : Bool :=
  match op with
  | .rlc => v.getLsbD ((i + 7) % 8)
  | .rrc => v.getLsbD ((i + 1) % 8)
  | .rl => if i = 0 then cy else v.getLsbD (i - 1)
  | .rr => if i = 7 then cy else v.getLsbD (i + 1)
  | .sla => if i = 0 then false else v.getLsbD (i - 1)
  | .sra => if i = 7 then v.getLsbD 7 else v.getLsbD (i + 1)
  | .swap => v.getLsbD ((i + 4) % 8)
  | .srl => if i = 7 then false else v.getLsbD (i + 1)

/-- The carry out of a rotate, shift or swap (R240). -/
def rotatedCarry (op : RotOp) (v : Byte) : Bool :=
  match op with
  | .rlc | .rl | .sla => v.getLsbD 7
  | .rrc | .rr | .sra | .srl => v.getLsbD 0
  | .swap => false

/-- `t` is `s` with PC moved to `pc`, at a cost in ticks, and nothing else changed. -/
def Goes (s t : State) (pc : Word) (ticks : Int) : Prop :=
  t = { s with pc := pc, budget := s.budget - ticks } ∧ SameReads s t

/-- `t` is `s` after `Pop16()` into PC, at a cost in ticks, and nothing else changed (R67). -/
structure Returns (s t : State) (ticks : Int) : Prop where
  low : t.pc.extractLsb' 0 8 = memRead s s.sp
  high : t.pc.extractLsb' 8 8 = memRead s (s.sp + 1)
  frame : t = { s with pc := t.pc, sp := s.sp + 2, budget := s.budget - ticks } ∧ SameReads s t

/-- `w` is the result of a rotate, shift or swap of `v`, bit by bit (R240). -/
def IsRotated (op : RotOp) (v : Byte) (cy : Bool) (w : Byte) : Prop :=
  ∀ i, i < 8 → w.getLsbD i = rotatedBit op v cy i

/-- `w` is `v` with bit `k` replaced by `x`. -/
def IsWithBit (v : Byte) (k : Fin 8) (x : Bool) (w : Byte) : Prop :=
  ∀ i, i < 8 → w.getLsbD i = if i = k.val then x else v.getLsbD i

/-- All operand forms of one ALU operation on A (R180, R108): `P v ticks` holds after the form whose operand is `v`,
and each form has its encoding. -/
def AluForms (op : AluOp) (s : State) (P : Byte → Int → State → Prop) : Prop :=
  (∀ r, encode (.aluReg op r) = [BitVec.ofNat 8 (0x80 + 8 * op.code + r.code)] ∧
    Runs (.aluReg op r) s (P (s.reg8 r) 4)) ∧
  (encode (.aluHl op) = [BitVec.ofNat 8 (0x86 + 8 * op.code)] ∧ Runs (.aluHl op) s (P (memRead s s.hl) 8)) ∧
  (∀ n, encode (.aluImm op n) = [BitVec.ofNat 8 (0xC6 + 8 * op.code), n] ∧ Runs (.aluImm op n) s (P n 8))

/-- The condition of a code holds, read from F (R270). -/
def condHolds (s : State) : Cond → Bool
  | .nz => s.f.getLsbD 7 == false
  | .z => s.f.getLsbD 7 == true
  | .nc => s.f.getLsbD 4 == false
  | .c => s.f.getLsbD 4 == true

/-- A byte that is two decimal digits, and the number it stands for. -/
def isBcd (v : Byte) : Prop := v.toNat / 16 ≤ 9 ∧ v.toNat % 16 ≤ 9

def bcdValue (v : Byte) : Nat := 10 * (v.toNat / 16) + v.toNat % 16

end Sys2Proof.Machine
end

