-- ==== Sys2Proof/Certificates/Slice0/Obligations.lean ====
section
/-! DEFINITION. The statements about the model. In a statement about one instruction, `s` is the state in which its rule
begins: PC is the address of the next sequential instruction (R101). Tick counts are those of the rules' Timing lines,
which the spec calls non-binding (R430). -/

open Sys2Proof Sys2Proof.Machine

/-! ## Encoding -/

/-- Words written out from the grid of R111 and the table of R112 decode to their instructions, one or two of each
family. -/
def Obligations.DecodeOfSpecWords : Prop :=
  decode [0x41] = .ok (.ldBC, []) ∧
  decode [0x16, 0x9C] = .ok (.ldDN 0x9C, []) ∧
  decode [0x22] = .ok (.ldIndHlIncA, []) ∧
  decode [0xEA, 0x00, 0xC3] = .ok (.ldIndNnA 0xC300, []) ∧
  decode [0x21, 0x5B, 0x3A] = .ok (.ldHlNn 0x3A5B, []) ∧
  decode [0xF5] = .ok (.pushAf, []) ∧
  decode [0x8B] = .ok (.adcAE, []) ∧
  decode [0xDE, 0x3A] = .ok (.sbcAN 0x3A, []) ∧
  decode [0x35] = .ok (.decIndHl, []) ∧
  decode [0x39] = .ok (.addHlSp, []) ∧
  decode [0x1F] = .ok (.rra, []) ∧
  decode [0xCB, 0x37] = .ok (.swapA, []) ∧
  decode [0xCB, 0x65] = .ok (.bit4L, []) ∧
  decode [0xCB, 0xCB] = .ok (.set1E, []) ∧
  decode [0x18, 0xFE] = .ok (.jrE 0xFE, []) ∧
  decode [0xC4, 0x34, 0x12] = .ok (.callNzNn 0x1234, []) ∧
  decode [0xFF] = .ok (.rst38, []) ∧
  decode [0xD9] = .ok (.reti, []) ∧
  decode [0x76] = .ok (.halt, []) ∧
  decode [0xD3] = .ok (.illegal 0xD3, [])

/-- Decoding an encoded well-formed instruction gives it back, whatever bytes follow it. -/
def Obligations.DecodeOfEncode : Prop :=
  ∀ i rest, wellFormed i = true → decode (encode i ++ rest) = .ok (i, rest)

/-- What the decoder reads is well formed, and its encoding is the bytes that were read: no bit is dropped. -/
def Obligations.EncodeOfDecode : Prop :=
  ∀ bytes i rest, decode bytes = .ok (i, rest) → wellFormed i = true ∧ encode i ++ rest = bytes

/-- The decoder is total: three bytes always hold an instruction, it takes as many of them as the opcode byte alone says
(R100), and it is `ILLEGAL` for the eleven opcodes of R114 and for no other. -/
def Obligations.DecodeTotal : Prop :=
  ∀ b0 b1 b2 : Byte, ∃ i,
    decode [b0, b1, b2] = .ok (i, [b0, b1, b2].drop (instrLength b0)) ∧
    1 ≤ instrLength b0 ∧ instrLength b0 ≤ 3 ∧
    ((∃ op, i = .illegal op) ↔
      b0 ∈ [0xD3, 0xDB, 0xDD, 0xE3, 0xE4, 0xEB, 0xEC, 0xED, 0xF4, 0xFC, 0xFD])

/-- The page of the prefix 0xCB: every second byte is defined (R112), and the instruction completes without touching PC.
That the table's row 0xCB is a constructor of its own, `prefixCb`, and means what its second byte says, is the model's
reading (log 20); so the two clauses about `exec` of it rest on log 20. -/
def Obligations.PrefixPage : Prop :=
  ∀ (op2 : Byte) (s : State),
    decode [0xCB, op2] = .ok (decodeCb op2, []) ∧
    (∀ op, decodeCb op2 ≠ .illegal op) ∧
    exec (.prefixCb op2) s = exec (decodeCb op2) s ∧
    Runs (.prefixCb op2) s (fun t => t.pc = s.pc ∧ t.sp = s.sp ∧ t.fault = s.fault)

/-! ## The step and the fetch -/

/-- A step of a machine that fetches runs the instruction that the bytes at PC decode to, in the state with PC moved past
its bytes (R101). Under the halt bug the opcode fetch does not move PC, so the byte at PC is read twice; the bug is then
consumed (R102). -/
def Obligations.StepRunsDecodedInstr : Prop :=
  ∀ (s : State) (i : Instr) (rest : List Byte), Fetches s →
    (s.haltBug = false →
      decode [fetchRead s s.pc, fetchRead s (s.pc + 1), fetchRead s (s.pc + 2)] = .ok (i, rest) →
      step s = exec i { s with
        eiInhibit := false, haltBug := false, pc0 := s.pc, pc := s.pc + BitVec.ofNat 16 (3 - rest.length) }) ∧
    (s.haltBug = true →
      decode [fetchRead s s.pc, fetchRead s s.pc, fetchRead s (s.pc + 1)] = .ok (i, rest) →
      step s = exec i { s with
        eiInhibit := false, haltBug := false, pc0 := s.pc, pc := s.pc + BitVec.ofNat 16 (2 - rest.length) })

/-- FetchRead: ROM bank 0 up to 0x3FFF whatever the bank controller maps there, the bus above; the bus answers the same
where the controller maps bank 0 there (R62). -/
def Obligations.FetchFastPath : Prop :=
  ∀ (s : State) (a : Word),
    (a.toNat ≤ 0x3FFF → fetchRead s a = romImageByte s.rom a.toNat) ∧
    (0x3FFF < a.toNat → fetchRead s a = memRead s a) ∧
    (s.cart.kind = .romOnly ∨ s.cart.kind ≠ .other ∧ s.bankMode = 0 → fetchRead s a = memRead s a)

/-- The step of the CPU, as R322 writes it, when the CPU moves next: a faulted machine has none; the one check after EI or
RETI is skipped; otherwise the wake test of `HALT_WAKE` (R326), then acceptance; a machine still halted idles 4 ticks and
changes nothing else (R327); otherwise one instruction runs. When the CPU moves is the model's choice (log 7): when the
schedule is empty or has the CPU's move at its head, which is then taken off; `s` is the state after that. The halted state that STOP enters
under `halt_like` is left out here (`joypadWakeOnly`, log 10); `StopInstruction` states it. -/
def Obligations.CpuStepRule : Prop :=
  ∀ s₀ : State, (s₀.schedule = [] ∨ ∃ rest, s₀.schedule = .cpu :: rest) → s₀.joypadWakeOnly = false →
    let s := { s₀ with schedule := s₀.schedule.tail }
    let requested : Prop := ∃ i, i < 5 ∧ s.iflag.getLsbD i = true
    let armed : Prop := ∃ i, i < 5 ∧ s.iflag.getLsbD i = true ∧ s.ie.getLsbD i = true
    let wake : Prop := (s.params.haltWake = .ifAny ∧ requested) ∨ (s.params.haltWake = .ieAndIf ∧ armed)
    (∀ f, s.fault = some f → step s₀ = .fault (.invalidOpcode f.pc f.op)) ∧
    (s.fault = none →
      (s.eiInhibit = true → s.halted = true → step s₀ = .next { s with eiInhibit := false, budget := s.budget - 4 }) ∧
      (s.eiInhibit = true → s.halted = false → step s₀ = executeOne { s with eiInhibit := false }) ∧
      (s.eiInhibit = false → s.ime = true → armed →
        step s₀ = .next { interruptEntry s with budget := s.budget - 20 }) ∧
      (s.eiInhibit = false → ¬ (s.ime = true ∧ armed) → s.halted = true → ¬ wake →
        step s₀ = .next { s with budget := s.budget - 4 }) ∧
      (s.eiInhibit = false → ¬ (s.ime = true ∧ armed) → s.halted = true → wake →
        step s₀ = executeOne { s with halted := false }) ∧
      (s.eiInhibit = false → ¬ (s.ime = true ∧ armed) → s.halted = false → step s₀ = executeOne s))

/-! ## 8-bit loads -/

/-- Every load of an 8-bit register: from a register, an immediate, and memory at HL, BC, DE, nn, 0xFF00 + C and
0xFF00 + n, with its encoding (R141 to R143, R146, R147, R150, R152, R154). -/
def Obligations.LoadRegisterForms : Prop :=
  ∀ s : State,
    (∀ dst r, encode (.ldReg dst r) = [BitVec.ofNat 8 (0x40 + 8 * dst.code + r.code)] ∧
      Runs (.ldReg dst r) s (fun t => Loads s t dst (s.reg8 r) 4)) ∧
    (∀ dst n, encode (.ldImm dst n) = [BitVec.ofNat 8 (0x06 + 8 * dst.code), n] ∧
      Runs (.ldImm dst n) s (fun t => Loads s t dst n 8)) ∧
    (∀ dst, encode (.ldFromHl dst) = [BitVec.ofNat 8 (0x46 + 8 * dst.code)] ∧
      Runs (.ldFromHl dst) s (fun t => Loads s t dst (memRead s s.hl) 8)) ∧
    (encode .ldAIndBc = [0x0A] ∧ Runs .ldAIndBc s (fun t => Loads s t .a (memRead s s.bc) 8)) ∧
    (encode .ldAIndDe = [0x1A] ∧ Runs .ldAIndDe s (fun t => Loads s t .a (memRead s s.de) 8)) ∧
    (∀ lo hi, encode (.ldAIndNn (hi ++ lo)) = [0xFA, lo, hi] ∧
      Runs (.ldAIndNn (hi ++ lo)) s (fun t => Loads s t .a (memRead s (hi ++ lo)) 16)) ∧
    (encode .ldhAIndC = [0xF2] ∧
      Runs .ldhAIndC s (fun t => Loads s t .a (memRead s (0xFF00 + s.c.zeroExtend 16)) 8)) ∧
    (∀ n, encode (.ldhAIndN n) = [0xF0, n] ∧
      Runs (.ldhAIndN n) s (fun t => Loads s t .a (memRead s (0xFF00 + n.zeroExtend 16)) 12))

/-- Every store of one byte: a register or an immediate at HL, and A at BC, DE, nn, 0xFF00 + C and 0xFF00 + n, with its
encoding (R144, R145, R148, R149, R151, R153, R155). -/
def Obligations.StoreForms : Prop :=
  ∀ s : State,
    (∀ r, encode (.ldToHl r) = [BitVec.ofNat 8 (0x70 + r.code)] ∧
      Runs (.ldToHl r) s (fun t => Stores s t s.hl (s.reg8 r) 8)) ∧
    (∀ n, encode (.ldIndHlN n) = [0x36, n] ∧ Runs (.ldIndHlN n) s (fun t => Stores s t s.hl n 12)) ∧
    (encode .ldIndBcA = [0x02] ∧ Runs .ldIndBcA s (fun t => Stores s t s.bc s.a 8)) ∧
    (encode .ldIndDeA = [0x12] ∧ Runs .ldIndDeA s (fun t => Stores s t s.de s.a 8)) ∧
    (∀ lo hi, encode (.ldIndNnA (hi ++ lo)) = [0xEA, lo, hi] ∧
      Runs (.ldIndNnA (hi ++ lo)) s (fun t => Stores s t (hi ++ lo) s.a 16)) ∧
    (encode .ldhIndCA = [0xE2] ∧ Runs .ldhIndCA s (fun t => Stores s t (0xFF00 + s.c.zeroExtend 16) s.a 8)) ∧
    (∀ n, encode (.ldhIndNA n) = [0xE0, n] ∧
      Runs (.ldhIndNA n) s (fun t => Stores s t (0xFF00 + n.zeroExtend 16) s.a 12))

/-- The four loads and stores of A at HL that then move HL by one, modulo 0x10000 (R156 to R159). -/
def Obligations.HlStepForms : Prop :=
  ∀ s : State,
    let stored (t : State) (hl : Nat) : Prop :=
      t = { memWrite s s.hl s.a with h := t.h, l := t.l, budget := s.budget - 8 } ∧ t.hl.toNat = hl ∧
        OnlyBus { s with h := t.h, l := t.l } t ∧ StoreFrame s t [s.hl]
    let loaded (t : State) (hl : Nat) : Prop :=
      t = { s with a := memRead s s.hl, h := t.h, l := t.l, budget := s.budget - 8 } ∧ t.hl.toNat = hl ∧ SameReads s t
    let up := (s.hl.toNat + 1) % 0x10000
    let down := (s.hl.toNat + 0xFFFF) % 0x10000
    (encode .ldIndHlIncA = [0x22] ∧ Runs .ldIndHlIncA s (fun t => stored t up)) ∧
    (encode .ldAIndHlInc = [0x2A] ∧ Runs .ldAIndHlInc s (fun t => loaded t up)) ∧
    (encode .ldIndHlDecA = [0x32] ∧ Runs .ldIndHlDecA s (fun t => stored t down)) ∧
    (encode .ldAIndHlDec = [0x3A] ∧ Runs .ldAIndHlDec s (fun t => loaded t down))

/-! ## 16-bit loads and the stack -/

/-- The pairs are views of the registers: the first-named register is the high byte, and writing a pair writes both
halves (R21). AF is read and written through F's four flag bits (R23). -/
def Obligations.RegisterPairs : Prop :=
  ∀ (s : State) (v : Word),
    s.bc.toNat = 256 * s.b.toNat + s.c.toNat ∧ s.de.toNat = 256 * s.d.toNat + s.e.toNat ∧
    s.hl.toNat = 256 * s.h.toNat + s.l.toNat ∧
    s.af.toNat = 256 * s.a.toNat + s.f.toNat / 16 * 16 ∧
    s.setBc v = { s with b := v.extractLsb' 8 8, c := v.extractLsb' 0 8 } ∧
    s.setDe v = { s with d := v.extractLsb' 8 8, e := v.extractLsb' 0 8 } ∧
    s.setHl v = { s with h := v.extractLsb' 8 8, l := v.extractLsb' 0 8 } ∧
    (s.setBc v).bc = v ∧ (s.setDe v).de = v ∧ (s.setHl v).hl = v ∧
    s.setAf v = { s with a := v.extractLsb' 8 8, f := (s.setAf v).f } ∧
    (s.setAf v).af.toNat = v.toNat / 16 * 16 ∧ (s.setAf v).f.toNat % 16 = 0

/-- `LD rr,nn` for the four codes; `LD (nn),SP`, the low byte of SP at nn, then the high byte at nn + 1 modulo 0x10000;
and `LD SP,HL` (R171 to R173). -/
def Obligations.LoadPairForms : Prop :=
  ∀ s : State,
    (∀ p lo hi, encode (.ldPair p (hi ++ lo)) = [BitVec.ofNat 8 (0x01 + 16 * p.code), lo, hi] ∧
      Runs (.ldPair p (hi ++ lo)) s (fun t => LoadsPair s t p (hi ++ lo) 12)) ∧
    (∀ lo hi : Byte,
      let nn : Word := hi ++ lo
      encode (.ldIndNnSp nn) = [0x08, lo, hi] ∧
      Runs (.ldIndNnSp nn) s (fun t =>
        t = { memWrite (memWrite s nn (s.sp.extractLsb' 0 8)) (nn + 1) (s.sp.extractLsb' 8 8) with
              budget := s.budget - 20 } ∧
        OnlyBus s t ∧ StoreFrame s t [nn, nn + 1])) ∧
    (encode .ldSpHl = [0xF9] ∧ Runs .ldSpHl s (fun t => LoadsPair s t .sp s.hl 8))

/-- `LD HL,SP+e` and `ADD SP,e`: SP plus the signed displacement modulo 0x10000, Z and N cleared, H and Cy of the
unsigned addition of the low byte of SP and e (R174, R234). -/
def Obligations.SpDisplacementForms : Prop :=
  ∀ (s : State) (e : Byte),
    let sum : Int := (s.sp.toNat + e.toInt) % 0x10000
    let h := decide (s.sp.toNat % 16 + e.toNat % 16 > 0x0F)
    let cy := decide (s.sp.toNat % 256 + e.toNat > 0xFF)
    (encode (.ldHlSpE e) = [0xF8, e] ∧
      Runs (.ldHlSpE e) s (fun t =>
        (t.hl.toNat : Int) = sum ∧ HasFlags t false false h cy ∧
        t = { s with h := t.h, l := t.l, f := t.f, budget := s.budget - 12 } ∧ SameReads s t)) ∧
    (encode (.addSpE e) = [0xE8, e] ∧
      Runs (.addSpE e) s (fun t =>
        (t.sp.toNat : Int) = sum ∧ HasFlags t false false h cy ∧
        t = { s with sp := t.sp, f := t.f, budget := s.budget - 16 } ∧ SameReads s t))

/-- `PUSH qq`: the high byte at SP - 1, then the low byte at SP - 2; the low nibble of F is pushed as zeros. `POP qq`: the
low register from the byte at SP, the high one from SP + 1; POP AF discards the low nibble of the byte it loads into F
(R175, R176). -/
def Obligations.PushPopForms : Prop :=
  ∀ s : State,
    let lo := memRead s s.sp
    let hi := memRead s (s.sp + 1)
    (encode .pushBc = [0xC5] ∧ Runs .pushBc s (fun t => Pushes s t (s.b ++ s.c) s.pc 16)) ∧
    (encode .pushDe = [0xD5] ∧ Runs .pushDe s (fun t => Pushes s t (s.d ++ s.e) s.pc 16)) ∧
    (encode .pushHl = [0xE5] ∧ Runs .pushHl s (fun t => Pushes s t (s.h ++ s.l) s.pc 16)) ∧
    (encode .pushAf = [0xF5] ∧ Runs .pushAf s (fun t => Pushes s t (s.a ++ (s.f &&& 0xF0)) s.pc 16)) ∧
    (encode .popBc = [0xC1] ∧ Runs .popBc s (fun t =>
      t = { s with b := hi, c := lo, sp := s.sp + 2, budget := s.budget - 12 } ∧ SameReads s t)) ∧
    (encode .popDe = [0xD1] ∧ Runs .popDe s (fun t =>
      t = { s with d := hi, e := lo, sp := s.sp + 2, budget := s.budget - 12 } ∧ SameReads s t)) ∧
    (encode .popHl = [0xE1] ∧ Runs .popHl s (fun t =>
      t = { s with h := hi, l := lo, sp := s.sp + 2, budget := s.budget - 12 } ∧ SameReads s t)) ∧
    (encode .popAf = [0xF1] ∧ Runs .popAf s (fun t =>
      HasFlags t (lo.getLsbD 7) (lo.getLsbD 6) (lo.getLsbD 5) (lo.getLsbD 4) ∧
      t = { s with a := hi, f := t.f, sp := s.sp + 2, budget := s.budget - 12 } ∧ SameReads s t))

/-- On a stack in RAM, a pair pushed and popped into any pair arrives there, a return undoes a call, and SP is back: the
byte orders of the push and the pop agree. -/
def Obligations.StackRoundTrip : Prop :=
  ∀ s t : State, (∀ a ∈ [s.sp - 1, s.sp - 2], InRam a) →
    (∀ q r, exec (.push q) s = .next t →
      Runs (.pop r) t (fun u => u.sp = s.sp ∧
        u.stackReg r = if r = .af then s.stackReg q &&& 0xFFF0 else s.stackReg q)) ∧
    (∀ nn, exec (.callNn nn) s = .next t → t.pc = nn ∧ Runs .ret t (fun u => u.pc = s.pc ∧ u.sp = s.sp))

/-! ## 8-bit arithmetic and logic -/

/-- ADD and ADC: the sum modulo 256, Z of it, N cleared, H the carry out of bit 3, Cy out of bit 7, the carry-in taking
part in both (R181, R190 to R195). -/
def Obligations.AddForms : Prop :=
  ∀ s : State,
    let adds (cin : Bool) (v : Byte) (k : Int) (t : State) : Prop :=
      let sum := s.a.toNat + v.toNat + cin.toNat
      Computes s t .a ((sum % 256 : Nat) : Int) (decide (sum % 256 = 0)) false
        (decide (s.a.toNat % 16 + v.toNat % 16 + cin.toNat > 0x0F)) (decide (sum > 0xFF)) k
    AluForms .add s (adds false) ∧ AluForms .adc s (adds (s.f.getLsbD 4))

/-- SUB and SBC: the difference modulo 256, Z of it, N set, H the borrow into bit 4, Cy the borrow (R182, R196 to
R201). -/
def Obligations.SubForms : Prop :=
  ∀ s : State,
    let subs (cin : Bool) (v : Byte) (k : Int) (t : State) : Prop :=
      let diff : Int := s.a.toNat - v.toNat - cin.toNat
      Computes s t .a (diff % 256) (decide (diff % 256 = 0)) true
        (decide (s.a.toNat % 16 < v.toNat % 16 + cin.toNat)) (decide (diff < 0)) k
    AluForms .sub s (subs false) ∧ AluForms .sbc s (subs (s.f.getLsbD 4))

/-- CP: Z iff A equals the operand, Cy iff A is below it, N set, H the borrow into bit 4; A is not written (R211 to
R213). -/
def Obligations.CompareForms : Prop :=
  ∀ s : State,
    AluForms .cp s (fun v k t =>
      FlagsOnly s t (decide (s.a = v)) true (decide (s.a.toNat % 16 < v.toNat % 16)) (decide (s.a.toNat < v.toNat)) k)

/-- AND, XOR, OR: bit by bit; Z of the result, N and Cy cleared, H set by AND and cleared by the others (R202 to
R210). -/
def Obligations.LogicForms : Prop :=
  ∀ s : State,
    let computes (f : Bool → Bool → Bool) (h : Bool) (v : Byte) (k : Int) (t : State) : Prop :=
      (∀ i, i < 8 → t.a.getLsbD i = f (s.a.getLsbD i) (v.getLsbD i)) ∧
        Computes s t .a t.a.toNat (decide (t.a = 0)) false h false k
    AluForms .and s (computes and true) ∧ AluForms .xor s (computes xor false) ∧ AluForms .or s (computes or false)

/-- INC and DEC of a register and of the byte at HL: modulo 256, Z of the result, N, H from the low nibble, Cy unchanged;
the memory forms read once and write the same address once (R184, R214 to R217). -/
def Obligations.IncDecForms : Prop :=
  ∀ s : State,
    let m := memRead s s.hl
    (∀ r : Reg8,
      let v := (s.reg8 r).toNat
      (encode (.incReg r) = [BitVec.ofNat 8 (0x04 + 8 * r.code)] ∧
        Runs (.incReg r) s (fun t => Computes s t r (((v + 1) % 256 : Nat) : Int) (decide (v = 0xFF)) false
          (decide (v % 16 = 0xF)) (s.f.getLsbD 4) 4)) ∧
      (encode (.decReg r) = [BitVec.ofNat 8 (0x05 + 8 * r.code)] ∧
        Runs (.decReg r) s (fun t => Computes s t r (((v + 255) % 256 : Nat) : Int) (decide (v = 0x01)) true
          (decide (v % 16 = 0)) (s.f.getLsbD 4) 4))) ∧
    (encode .incIndHl = [0x34] ∧
      Runs .incIndHl s (fun t => StoresFlags s t s.hl (m + 1) (decide (m = 0xFF)) false
        (decide (m.toNat % 16 = 0xF)) (s.f.getLsbD 4) 12)) ∧
    (encode .decIndHl = [0x35] ∧
      Runs .decIndHl s (fun t => StoresFlags s t s.hl (m - 1) (decide (m = 0x01)) true
        (decide (m.toNat % 16 = 0)) (s.f.getLsbD 4) 12))

/-- DAA: A plus or minus the two corrections, modulo 256; Z of the new A, N kept, H cleared, Cy set by the addition
correction of 0x60 and never cleared (R218). -/
def Obligations.DecimalAdjust : Prop :=
  ∀ s : State,
    let n := s.f.getLsbD 6
    let h := s.f.getLsbD 5
    let cy := s.f.getLsbD 4
    let high := if n then cy else cy || decide (s.a.toNat > 0x99)
    let low := if n then h else h || decide (s.a.toNat % 16 > 0x09)
    let corr : Int := (if high then 0x60 else 0) + (if low then 0x06 else 0)
    let x : Int := if n then s.a.toNat - corr else s.a.toNat + corr
    encode .daa = [0x27] ∧
    Runs .daa s (fun t => Computes s t .a (x % 256) (decide (x % 256 = 0)) n false high 4)

/-- What DAA is for: after an addition or subtraction of two two-digit decimal numbers it leaves the two digits of their
sum or difference modulo 100, and Cy the decimal carry or borrow. -/
def Obligations.DecimalArithmetic : Prop :=
  ∀ (s : State) (op : AluOp) (v : Byte), op ∈ [.add, .adc, .sub, .sbc] → isBcd s.a → isBcd v →
    let cin : Int := if (op = .adc ∨ op = .sbc) ∧ s.f.getLsbD 4 = true then 1 else 0
    let x : Int := if op = .add ∨ op = .adc then bcdValue s.a + bcdValue v + cin else bcdValue s.a - bcdValue v - cin
    ∃ t u, exec (.aluImm op v) s = .next t ∧ exec .daa t = .next u ∧
      isBcd u.a ∧ (bcdValue u.a : Int) = x % 100 ∧ u.f.getLsbD 4 = decide (x < 0 ∨ x > 99)

/-- CPL, SCF and CCF (R219 to R221). -/
def Obligations.ComplementAndCarryForms : Prop :=
  ∀ s : State,
    (encode .cpl = [0x2F] ∧
      Runs .cpl s (fun t => Computes s t .a ((255 - s.a.toNat : Nat) : Int) (s.f.getLsbD 7) true true (s.f.getLsbD 4) 4)) ∧
    (encode .scf = [0x37] ∧ Runs .scf s (fun t => FlagsOnly s t (s.f.getLsbD 7) false false true 4)) ∧
    (encode .ccf = [0x3F] ∧ Runs .ccf s (fun t => FlagsOnly s t (s.f.getLsbD 7) false false (!s.f.getLsbD 4) 4))

/-! ## 16-bit arithmetic -/

/-- `ADD HL,rr`: the sum modulo 0x10000, Z kept, N cleared, H the carry out of bit 11, Cy out of bit 15. `INC rr` and
`DEC rr`: modulo 0x10000, no flag (R231 to R233). -/
def Obligations.PairArithmeticForms : Prop :=
  ∀ (s : State) (p : Reg16),
    let x := s.hl.toNat
    let y := (s.reg16 p).toNat
    (encode (.addHl p) = [BitVec.ofNat 8 (0x09 + 16 * p.code)] ∧
      Runs (.addHl p) s (fun t =>
        t.hl.toNat = (x + y) % 0x10000 ∧
        HasFlags t (s.f.getLsbD 7) false (decide (x % 0x1000 + y % 0x1000 > 0x0FFF)) (decide (x + y > 0xFFFF)) ∧
        t = { s with h := t.h, l := t.l, f := t.f, budget := s.budget - 8 } ∧ SameReads s t)) ∧
    (encode (.incPair p) = [BitVec.ofNat 8 (0x03 + 16 * p.code)] ∧
      Runs (.incPair p) s (fun t => LoadsPair s t p (BitVec.ofNat 16 ((y + 1) % 0x10000)) 8)) ∧
    (encode (.decPair p) = [BitVec.ofNat 8 (0x0B + 16 * p.code)] ∧
      Runs (.decPair p) s (fun t => LoadsPair s t p (BitVec.ofNat 16 ((y + 0xFFFF) % 0x10000)) 8))

/-! ## Rotates, shifts and bits -/

/-- RLCA, RLA, RRCA, RRA: the rotate of A bit by bit, Z forced to 0 whatever the result (R241 to R244). -/
def Obligations.RotateAForms : Prop :=
  ∀ s : State,
    let rotates (op : RotOp) (t : State) : Prop :=
      IsRotated op s.a (s.f.getLsbD 4) t.a ∧
        Computes s t .a t.a.toNat false false false (rotatedCarry op s.a) 4
    (encode .rlca = [0x07] ∧ Runs .rlca s (rotates .rlc)) ∧
    (encode .rla = [0x17] ∧ Runs .rla s (rotates .rl)) ∧
    (encode .rrca = [0x0F] ∧ Runs .rrca s (rotates .rrc)) ∧
    (encode .rra = [0x1F] ∧ Runs .rra s (rotates .rr))

/-- The eight operations of the prefixed page on a register: the result bit by bit, Z of it, N and H cleared, Cy the bit
shifted out (R245 to R259). -/
def Obligations.RotateRegisterForms : Prop :=
  ∀ (s : State) (op : RotOp) (r : Reg8),
    encode (.rotReg op r) = [0xCB, BitVec.ofNat 8 (8 * op.code + r.code)] ∧
    Runs (.rotReg op r) s (fun t =>
      IsRotated op (s.reg8 r) (s.f.getLsbD 4) (t.reg8 r) ∧
      Computes s t r (t.reg8 r).toNat (decide (t.reg8 r = 0)) false false (rotatedCarry op (s.reg8 r)) 8)

/-- The same on the byte at HL: one read, then one write of the same address (R246 to R260). -/
def Obligations.RotateMemoryForms : Prop :=
  ∀ (s : State) (op : RotOp),
    let v := memRead s s.hl
    encode (.rotHl op) = [0xCB, BitVec.ofNat 8 (8 * op.code + 6)] ∧
    Runs (.rotHl op) s (fun t => ∃ w, IsRotated op v (s.f.getLsbD 4) w ∧
      StoresFlags s t s.hl w (decide (w = 0)) false false (rotatedCarry op v) 16)

/-- `BIT b,r` and `BIT b,(HL)`: Z the complement of the tested bit, N cleared, H set, Cy kept, no operand written (R261,
R262). -/
def Obligations.BitTestForms : Prop :=
  ∀ (s : State) (k : Fin 8),
    (∀ r, encode (.bitReg k r) = [0xCB, BitVec.ofNat 8 (0x40 + 8 * k.val + r.code)] ∧
      Runs (.bitReg k r) s (fun t => FlagsOnly s t (!(s.reg8 r).getLsbD k) false true (s.f.getLsbD 4) 8)) ∧
    (encode (.bitHl k) = [0xCB, BitVec.ofNat 8 (0x46 + 8 * k.val)] ∧
      Runs (.bitHl k) s (fun t => FlagsOnly s t (!(memRead s s.hl).getLsbD k) false true (s.f.getLsbD 4) 12))

/-- RES and SET of a register and of the byte at HL: the one bit cleared or set and written back, no flag (R263 to
R266). -/
def Obligations.ResetSetForms : Prop :=
  ∀ (s : State) (k : Fin 8),
    (∀ r : Reg8,
      (encode (.resReg k r) = [0xCB, BitVec.ofNat 8 (0x80 + 8 * k.val + r.code)] ∧
        Runs (.resReg k r) s (fun t => IsWithBit (s.reg8 r) k false (t.reg8 r) ∧ Loads s t r (t.reg8 r) 8)) ∧
      (encode (.setReg k r) = [0xCB, BitVec.ofNat 8 (0xC0 + 8 * k.val + r.code)] ∧
        Runs (.setReg k r) s (fun t => IsWithBit (s.reg8 r) k true (t.reg8 r) ∧ Loads s t r (t.reg8 r) 8))) ∧
    (encode (.resHl k) = [0xCB, BitVec.ofNat 8 (0x86 + 8 * k.val)] ∧
      Runs (.resHl k) s (fun t => ∃ w, IsWithBit (memRead s s.hl) k false w ∧ Stores s t s.hl w 16)) ∧
    (encode (.setHl k) = [0xCB, BitVec.ofNat 8 (0xC6 + 8 * k.val)] ∧
      Runs (.setHl k) s (fun t => ∃ w, IsWithBit (memRead s s.hl) k true w ∧ Stores s t s.hl w 16))

/-! ## Control -/

/-- The jumps: absolute, to HL, relative, and the conditional forms taken or not (R271 to R275). -/
def Obligations.JumpForms : Prop :=
  ∀ s : State,
    (∀ lo hi, encode (.jpNn (hi ++ lo)) = [0xC3, lo, hi] ∧
      Runs (.jpNn (hi ++ lo)) s (fun t => Goes s t (hi ++ lo) 16)) ∧
    (∀ cc lo hi, encode (.jpCc cc (hi ++ lo)) = [BitVec.ofNat 8 (0xC2 + 8 * cc.code), lo, hi] ∧
      Runs (.jpCc cc (hi ++ lo)) s (fun t =>
        if condHolds s cc then Goes s t (hi ++ lo) 16 else Goes s t s.pc 12)) ∧
    (encode .jpHl = [0xE9] ∧ Runs .jpHl s (fun t => Goes s t s.hl 4)) ∧
    (∀ e, encode (.jrE e) = [0x18, e] ∧
      Runs (.jrE e) s (fun t => Goes s t (BitVec.ofInt 16 (s.pc.toNat + e.toInt)) 12)) ∧
    (∀ cc e, encode (.jrCc cc e) = [BitVec.ofNat 8 (0x20 + 8 * cc.code), e] ∧
      Runs (.jrCc cc e) s (fun t =>
        if condHolds s cc then Goes s t (BitVec.ofInt 16 (s.pc.toNat + e.toInt)) 12 else Goes s t s.pc 8))

/-- The calls: PC, the address of the next instruction, is pushed and PC moves to the target; a conditional call that is
not taken writes nothing; RST goes to eight times its code (R276, R277, R281). -/
def Obligations.CallForms : Prop :=
  ∀ s : State,
    (∀ lo hi, encode (.callNn (hi ++ lo)) = [0xCD, lo, hi] ∧
      Runs (.callNn (hi ++ lo)) s (fun t => Pushes s t s.pc (hi ++ lo) 24)) ∧
    (∀ cc lo hi, encode (.callCc cc (hi ++ lo)) = [BitVec.ofNat 8 (0xC4 + 8 * cc.code), lo, hi] ∧
      Runs (.callCc cc (hi ++ lo)) s (fun t =>
        if condHolds s cc then Pushes s t s.pc (hi ++ lo) 24 else Goes s t s.pc 12)) ∧
    (∀ y : Fin 8, encode (.rst y) = [BitVec.ofNat 8 (0xC7 + 8 * y.val)] ∧
      Runs (.rst y) s (fun t => Pushes s t s.pc (BitVec.ofNat 16 (8 * y.val)) 16))

/-- RET and `RET cc`: PC popped, low byte at SP; a return not taken reads nothing and leaves SP. RETI: PC popped, IME and
the inhibition of the next interrupt check set, no flag (R278 to R280). -/
def Obligations.ReturnForms : Prop :=
  ∀ s : State,
    (encode .ret = [0xC9] ∧ Runs .ret s (fun t => Returns s t 16)) ∧
    (∀ cc, encode (.retCc cc) = [BitVec.ofNat 8 (0xC0 + 8 * cc.code)] ∧
      Runs (.retCc cc) s (fun t => if condHolds s cc then Returns s t 20 else Goes s t s.pc 8)) ∧
    (encode .reti = [0xD9] ∧ Runs .reti s (fun t => t.ime = true ∧ t.eiInhibit = true ∧
      Returns { s with ime := true, eiInhibit := true } t 16))

/-! ## System -/

/-- NOP, DI and EI (R290, R293, R294). -/
def Obligations.NopDiEi : Prop :=
  ∀ s : State,
    (encode .nop = [0x00] ∧ exec .nop s = .next { s with budget := s.budget - 4 }) ∧
    (encode .di = [0xF3] ∧ exec .di s = .next { s with ime := false, eiInhibit := false, budget := s.budget - 4 }) ∧
    (encode .ei = [0xFB] ∧ exec .ei s = .next { s with ime := true, eiInhibit := true, budget := s.budget - 4 })

/-- HALT enters the halted state, PC stays after it, and the halt bug is armed by `HALT_BUG_COND` (R291). -/
def Obligations.HaltInstruction : Prop :=
  ∀ s : State,
    encode .halt = [0x76] ∧
    Runs .halt s (fun t =>
      t = { s with halted := true, haltBug := t.haltBug, joypadWakeOnly := false, budget := s.budget - 4 } ∧
      SameReads s t ∧
      (s.params.haltBugCond = .imeClear → t.haltBug = (s.haltBug || !s.ime)) ∧
      (s.params.haltBugCond = .imeClearAndPending →
        t.haltBug = (s.haltBug || (!s.ime && decide (s.ie.extractLsb' 0 5 &&& s.iflag ≠ 0)))))

/-- STOP under the three values of `STOP_BEHAVIOUR`: refused by name; a no-op; a halted state without the halt bug, which
no request but the joypad's ends (R292). How that state goes on is the model's choice (log 10), the step of R322 with the
wake test of `HALT_WAKE` made on the joypad's request alone: right after EI or RETI one check is skipped; until the wake
the machine idles, whatever is requested and armed and whether or not IME is set; at the wake an interrupt is accepted if
IME is set and a source is pending and armed, and otherwise an instruction runs. -/
def Obligations.StopInstruction : Prop :=
  ∀ (s : State) (n : Byte),
    encode (.stop n) = [0x10, n] ∧
    (s.params.stopBehaviour = .refuse → exec (.stop n) s = .refused .stopRefused) ∧
    (s.params.stopBehaviour = .nop2 → exec (.stop n) s = .next { s with budget := s.budget - 4 }) ∧
    (s.params.stopBehaviour = .haltLike →
      exec (.stop n) s = .next { s with halted := true, joypadWakeOnly := true, budget := s.budget - 4 }) ∧
    (CpuMoves s → s.halted = true → s.joypadWakeOnly = true →
      let wake : Prop := s.iflag.getLsbD 4 = true ∧ (s.params.haltWake = .ifAny ∨ s.ie.getLsbD 4 = true)
      let armed : Prop := ∃ i, i < 5 ∧ s.iflag.getLsbD i = true ∧ s.ie.getLsbD i = true
      (s.eiInhibit = true → step s = .next { s with eiInhibit := false, budget := s.budget - 4 }) ∧
      (s.eiInhibit = false → ¬ wake → step s = .next { s with budget := s.budget - 4 }) ∧
      (s.eiInhibit = false → wake → s.ime = true → armed →
        step s = .next { interruptEntry s with budget := s.budget - 20 }) ∧
      (s.eiInhibit = false → wake → ¬ (s.ime = true ∧ armed) →
        step s = executeOne { s with halted := false, joypadWakeOnly := false }))

/-- An invalid opcode records `InvalidOpcode(pc0, op)` and changes no register, flag or memory byte; PC is left after the
opcode, or on it under the halt bug; the machine then has no further step until reset (R295). -/
def Obligations.InvalidOpcodeFaults : Prop :=
  ∀ (s : State) (op : Byte), op ∈ invalidOpcodes →
    encode (.illegal op) = [op] ∧
    exec (.illegal op) s = .next { s with fault := some ⟨s.pc0, op⟩ } ∧
    (Fetches s → fetchRead s s.pc = op →
      ∃ t, step s = .next t ∧ step t = .fault (.invalidOpcode s.pc op) ∧
        t = { s with
          fault := some ⟨s.pc, op⟩, pc0 := s.pc, haltBug := false, eiInhibit := false
          pc := if s.haltBug then s.pc else s.pc + 1 } ∧
        SameReads s t)

/-- A faulted machine takes no step, and only `reset()` leaves the faulted state (R301, R405). -/
def Obligations.FaultedMachineStops : Prop :=
  ∀ (s : State) (f : InvalidOp), s.fault = some f →
    ((∀ rest, s.schedule ≠ .reset :: rest) → step s = .fault (.invalidOpcode f.pc f.op)) ∧
    (∀ rest, s.schedule = .reset :: rest → ∃ t, step s = .next t ∧ t.fault = none)

/-! ## Interrupts -/

/-- Interrupt entry: with IME set and a source pending and armed, the lowest-numbered one is accepted: IME and `halted`
are cleared, PC is pushed and becomes 0x0040 + 8 * i, and that one request is cleared; nothing else changes (R320,
R321). The halted state of STOP under `halt_like` is left out (log 10). -/
def Obligations.InterruptEntryRule : Prop :=
  ∀ s : State, CpuMoves s → s.eiInhibit = false → s.ime = true → s.ie.extractLsb' 0 5 &&& s.iflag ≠ 0 →
    s.joypadWakeOnly = false →
    ∃ i, i < 5 ∧ s.ie.getLsbD i = true ∧ s.iflag.getLsbD i = true ∧
      (∀ j, j < i → (s.ie.getLsbD j && s.iflag.getLsbD j) = false) ∧
      ∃ m t, m = memWrite (memWrite s (s.sp - 1) (s.pc.extractLsb' 8 8)) (s.sp - 2) (s.pc.extractLsb' 0 8) ∧
        OnlyBus s m ∧ StoreFrame s m [s.sp - 1, s.sp - 2] ∧
        step s = .next t ∧
        t = { m with
          sp := s.sp - 2, pc := BitVec.ofNat 16 (0x40 + 8 * i), ime := false, halted := false
          iflag := t.iflag, budget := s.budget - 20 } ∧
        (∀ j, t.iflag.getLsbD j = (m.iflag.getLsbD j && decide (j ≠ i)))

/-- After EI or RETI exactly one more instruction runs before an interrupt can be accepted: the next step executes an
instruction whatever is pending, and it leaves the next check uninhibited unless it is EI or RETI itself (R421, R422). A
call of `emulate` that grants too few ticks to run it makes no check and keeps the inhibition, the reading of R351 beside
R421 that log 30 takes. -/
def Obligations.EnableDelay : Prop :=
  ∀ s t : State, Fetches s → fetchInstr s = .ei ∨ fetchInstr s = .reti → step s = .next t →
    step t = executeOne { t with eiInhibit := false } ∧
    (∀ u, step t = .next u → u.eiInhibit = true → fetchInstr t = .ei ∨ fetchInstr t = .reti) ∧
    (∀ fuel n : Nat, t.budget + n ≤ 0 → cpuEmulate fuel n t = .next { t with budget := t.budget + n })

/-- A step of the CPU sets IME only by EI and RETI, and clears it only by DI and by interrupt entry (R322). The host's
`reset()`, which R322 names beside these, is no step of the CPU; `ResetProcedure` states it. -/
def Obligations.ImeWriters : Prop :=
  ∀ s t : State, CpuMoves s → step s = .next t →
    (s.ime = false → t.ime = true → t.pc0 = s.pc ∧ (fetchInstr s = .ei ∨ fetchInstr s = .reti)) ∧
    (s.ime = true → t.ime = false →
      (t.pc0 = s.pc ∧ fetchInstr s = .di) ∨
      (s.eiInhibit = false ∧ s.ie.extractLsb' 0 5 &&& s.iflag ≠ 0 ∧ t.sp = s.sp - 2 ∧
        t.pc.toNat ∈ [0x40, 0x48, 0x50, 0x58, 0x60]))

/-- The interrupt controller: IE stores and reads back all 8 bits; IF stores bits 4..0, and its bits 7..5 read as
`IF_UPPER_READ`; `raise` and `lower` set and clear bits of IF and nothing else; and a source is pending and armed iff its
bit is set in both masks (R35, R36, R311). -/
def Obligations.InterruptController : Prop :=
  ∀ (s : State) (v : Byte),
    memWrite s 0xFFFF v = { s with ie := v } ∧ memRead s 0xFFFF = s.ie ∧
    memWrite s 0xFF0F v = { s with iflag := BitVec.ofNat 5 v.toNat } ∧
    (memRead s 0xFF0F).toNat = s.params.ifUpperRead.toNat * 32 + s.iflag.toNat ∧
    (∀ i, i < 5 → (s.raise v).iflag.getLsbD i = (s.iflag.getLsbD i || v.getLsbD i) ∧
      (s.lower v).iflag.getLsbD i = (s.iflag.getLsbD i && !v.getLsbD i)) ∧
    s.raise v = { s with iflag := (s.raise v).iflag } ∧ s.lower v = { s with iflag := (s.lower v).iflag } ∧
    (s.isPending = true ↔ ∃ i, i < 5 ∧ s.ie.getLsbD i = true ∧ s.iflag.getLsbD i = true) ∧
    (s.isPendingMask v = true ↔ ∃ i, i < 5 ∧ s.ie.getLsbD i = true ∧ s.iflag.getLsbD i = true ∧ v.getLsbD i = true)

/-! ## The bus -/

/-- The address map: every address has one owner, by the ranges of R70. -/
def Obligations.AddressMap : Prop :=
  ∀ a : Word,
    let n := a.toNat
    (ownerOf a = .romFixed ↔ n ≤ 0x3FFF) ∧ (ownerOf a = .romBanked ↔ 0x4000 ≤ n ∧ n ≤ 0x7FFF) ∧
    (ownerOf a = .videoRam ↔ 0x8000 ≤ n ∧ n ≤ 0x9FFF) ∧ (ownerOf a = .cartRam ↔ 0xA000 ≤ n ∧ n ≤ 0xBFFF) ∧
    (ownerOf a = .workRam ↔ 0xC000 ≤ n ∧ n ≤ 0xDFFF) ∧ (ownerOf a = .echo ↔ 0xE000 ≤ n ∧ n ≤ 0xFDFF) ∧
    (ownerOf a = .oam ↔ 0xFE00 ≤ n ∧ n ≤ 0xFE9F) ∧ (ownerOf a = .joypad ↔ n = 0xFF00) ∧
    (ownerOf a = .serial ↔ n = 0xFF01 ∨ n = 0xFF02) ∧ (ownerOf a = .timer ↔ 0xFF04 ≤ n ∧ n ≤ 0xFF07) ∧
    (ownerOf a = .intFlag ↔ n = 0xFF0F) ∧ (ownerOf a = .apu ↔ 0xFF10 ≤ n ∧ n ≤ 0xFF3F) ∧
    (ownerOf a = .ppu ↔ 0xFF40 ≤ n ∧ n ≤ 0xFF4B) ∧ (ownerOf a = .highRam ↔ 0xFF80 ≤ n ∧ n ≤ 0xFFFE) ∧
    (ownerOf a = .intEnable ↔ n = 0xFFFF) ∧
    (ownerOf a = .nobody ↔ 0xFEA0 ≤ n ∧ n ≤ 0xFEFF ∨ n = 0xFF03 ∨ 0xFF08 ≤ n ∧ n ≤ 0xFF0E ∨ 0xFF4C ≤ n ∧ n ≤ 0xFF7F) ∧
    (ownerOf a = .nobody → ∀ (s : State) (v : Byte), memRead s a = 0xFF ∧ memWrite s a v = s) ∧
    (ownerOf a = .echo → ∀ (s : State) (v : Byte),
      memRead s a = memRead s (a - 0x2000) ∧ memWrite s a v = memWrite s (a - 0x2000) v)

/-- RAM answers the last byte stored at the address since reset, or its reset content; video RAM and OAM are plain bytes
to the CPU at all times; and a store to RAM is seen by the very next fetch (R71, R74, R84). -/
def Obligations.RamReadAfterWrite : Prop :=
  ∀ (s : State) (a b : Word) (v : Byte), InRam a →
    memRead (memWrite s a v) b = (if homeOf b = homeOf a then v else memRead s b) ∧
    (homeOf b = homeOf a → fetchRead (memWrite s a v) b = v) ∧
    memWrite s a v = { s with mem := (memWrite s a v).mem } ∧
    (s.mem = [] → memRead s a = Config.resetByte s.ramDraw (homeOf a))

/-- One bus write leaves unchanged whatever is not its target, and reaches no register of the CPU. Where the window 0xA000
to 0xBFFF shows a RAM bank, whatever the controller, the byte written is read back (R73), of a nibble RAM its low four bits
(R380). Which windows another controller shows, and that it acts on no RAM write, is the model's form (log 14). -/
def Obligations.BusWriteFrame : Prop :=
  ∀ (s : State) (a : Word) (v : Byte),
    OnlyBus s (memWrite s a v) ∧ StoreFrame s (memWrite s a v) [a] ∧
    (∀ bank, ownerOf a = .cartRam → s.ramWindow = .ram bank →
      (memRead (memWrite s a v) a).extractLsb' 0 4 = v.extractLsb' 0 4 ∧
      (s.hasNibbleRam = false → memRead (memWrite s a v) a = v) ∧
      memWrite s a v = { s with cartRam := (memWrite s a v).cartRam })

/-- A register of the serial port, APU or PPU answers the last byte written to it, masked by its read-only and constant
bits; STAT bits 2..0 and LY are read-only, and STAT bit 7 reads as 1 (R363). For the other registers the spec gives no
masks: that they are fixed by the address, and that a read-only bit keeps what the device put there, is the model's choice
(log 12). Where R76 lists no register, a read gives 0xFF and a write is ignored (R60, R61). -/
def Obligations.PeripheralRegisters : Prop :=
  ∀ (s : State) (v : Byte),
    let gap (a : Word) : Prop := a.toNat = 0xFF15 ∨ a.toNat = 0xFF1F ∨ 0xFF27 ≤ a.toNat ∧ a.toNat ≤ 0xFF2F
    (∀ a, ownerOf a = .serial ∨ ownerOf a = .apu ∨ ownerOf a = .ppu → ¬ gap a → ∀ i, i < 8 →
      (memRead (memWrite s a v) a).getLsbD i =
        if (periphOnes a.toNat).getLsbD i then true
        else if (periphReadOnly a.toNat).getLsbD i then (memRead s a).getLsbD i else v.getLsbD i) ∧
    (∀ a, gap a → ownerOf a = .apu ∧ memRead s a = 0xFF ∧ memWrite s a v = s) ∧
    periphReadOnly 0xFF41 = 0x07 ∧ periphOnes 0xFF41 = 0x80 ∧ periphReadOnly 0xFF44 = 0xFF ∧
    (memRead s 0xFF41).getLsbD 7 = true ∧ memRead (memWrite s 0xFF44 v) 0xFF44 = memRead s 0xFF44

/-- The joypad. P1: bits 7..6 read as 1, bits 5..4 as written; with one group selected bits 3..0 read its latched mask. A
change of the buttons is latched, a newly pressed button raises IF bit 4, no change raises nothing, and no other bit of IF
and nothing else changes (R357). Which select bit stands for which group, and that a press raises the request under every
reading of R357 while another change may or may not, is the model's reading (log 13). -/
def Obligations.JoypadRegister : Prop :=
  (∀ (s : State) (v : Byte),
    let t := memWrite s 0xFF00 v
    let r := memRead t 0xFF00
    r.getLsbD 7 = true ∧ r.getLsbD 6 = true ∧ r.getLsbD 5 = v.getLsbD 5 ∧ r.getLsbD 4 = v.getLsbD 4 ∧
    (v.getLsbD 5 = false → v.getLsbD 4 = true → r.extractLsb' 0 4 = s.joyActions) ∧
    (v.getLsbD 5 = true → v.getLsbD 4 = false → r.extractLsb' 0 4 = s.joyDirs)) ∧
  (∀ (s : State) (dirs actions : BitVec 4) (rest : List Move), s.schedule = .buttons dirs actions :: rest → s.fault = none →
    let pressed : Prop := ∃ i, i < 4 ∧ (s.joyDirs.getLsbD i = true ∧ dirs.getLsbD i = false ∨
      s.joyActions.getLsbD i = true ∧ actions.getLsbD i = false)
    ∃ t, step s = .next t ∧
      t = { s with schedule := rest, joyDirs := dirs, joyActions := actions, iflag := t.iflag } ∧
      (pressed → t.iflag = s.iflag ||| 0b10000) ∧
      (dirs = s.joyDirs → actions = s.joyActions → t.iflag = s.iflag) ∧
      (t.iflag = s.iflag ∨ t.iflag = s.iflag ||| 0b10000))

/-- A ROM-only cartridge: 0x0000 to 0x7FFF reads the image, writes there are ignored; with no RAM banks a write to 0xA000
to 0xBFFF is a no-op and a read returns 0xFF; and the loader builds such a cartridge from type and RAM-size codes 0x00
(R382). -/
def Obligations.RomOnlyCartridge : Prop :=
  (∀ (s : State) (a : Word) (v : Byte), s.cart.kind = .romOnly →
    (a.toNat ≤ 0x7FFF → memRead s a = romImageByte s.rom a.toNat ∧ memWrite s a v = s) ∧
    (s.cart.ramBanks = 0 → ownerOf a = .cartRam → memRead s a = 0xFF ∧ memWrite s a v = s)) ∧
  (∀ image saved cart rom, loadCart image saved = .ok (cart, rom) →
    romImageByte rom 0x147 = 0x00 → romImageByte rom 0x149 = 0x00 → cart.kind = .romOnly ∧ cart.ramBanks = 0)

/-- MBC1, and HuC1 identically. RAM: the latch is on iff the low nibble last written to 0x0000 to 0x1FFF is 0xA; while it
is off or there is no RAM, reads of 0xA000 to 0xBFFF give 0xFF and writes are ignored; while on, they reach bank 0, or
bank `bank_hi` in mode 1. ROM: the three bank registers with 0 replaced by 1, the two windows, and the fetch that does not
see the bank mapped at 0x0000 (R73, R383, R384, R424). Three points are the model's reading: the RAM offset of a bank and
"large" as more than 32 banks, R424's 512 KB (log 15), and that HuC1 has MBC1's latch too (log 16). -/
def Obligations.Mbc1Banking : Prop :=
  ∀ (s : State) (a b : Word) (v : Byte), s.cart.kind = .mbc1 ∨ s.cart.kind = .huc1 →
    let n := a.toNat
    (n ≤ 0x1FFF → memWrite s a v = { s with ramOn := decide (v.toNat % 16 = 0xA) }) ∧
    (0x2000 ≤ n → n ≤ 0x3FFF → memWrite s a v =
      { s with bankLo := if v.toNat % 32 = 0 then 1 else BitVec.ofNat 5 (v.toNat % 32) }) ∧
    (0x4000 ≤ n → n ≤ 0x5FFF → memWrite s a v = { s with bankHi := BitVec.ofNat 2 (v.toNat % 4) }) ∧
    (0x6000 ≤ n → n ≤ 0x7FFF → memWrite s a v = { s with bankMode := BitVec.ofNat 1 (v.toNat % 2) }) ∧
    (0x4000 ≤ n → n ≤ 0x7FFF → memRead s a =
      romImageByte s.rom (((s.bankHi.toNat <<< 5 ||| s.bankLo.toNat) % s.cart.romBanks) * 0x4000 + (n - 0x4000))) ∧
    (n ≤ 0x3FFF → s.bankMode = 0 ∨ s.cart.romBanks ≤ 32 → memRead s a = romImageByte s.rom n) ∧
    (n ≤ 0x3FFF → s.bankMode = 1 → 32 < s.cart.romBanks → memRead s a =
      romImageByte s.rom ((s.bankHi.toNat <<< 5) % s.cart.romBanks * 0x4000 + n)) ∧
    (n ≤ 0x3FFF → fetchRead s a = romImageByte s.rom n) ∧
    (ownerOf a = .cartRam → s.ramOn = false ∨ s.cart.ramBanks = 0 → memRead s a = 0xFF ∧ memWrite s a v = s) ∧
    (ownerOf a = .cartRam → s.ramOn = true → 0 < s.cart.ramBanks →
      let bank := if s.bankMode = 1 then s.bankHi.toNat % s.cart.ramBanks else 0
      memRead s a = s.cartRamByte (bank * 0x2000 + (n - 0xA000)) ∧
      memRead (memWrite s a v) b = (if b = a then v else memRead s b))

/-- No step changes the cartridge ROM image, the cartridge or the parameters (R41). -/
def Obligations.ConfigurationFixed : Prop :=
  ∀ s t : State, step s = .next t → t.rom = s.rom ∧ t.cart = s.cart ∧ t.params = s.params

/-! ## The timer -/

/-- The timer's two counters, as R341 and R343 write their loops. The divider: `n` ticks are subtracted, and while the
count is not above 0, DIV steps and 256 is added. The programmable counter: nothing while TAC bit 2 is 0; otherwise `n`
ticks are subtracted, and while the count is not above 0, the selected period is added and TIMA steps, reloading from TMA
and requesting on overflow (R344). -/
def Obligations.TimerAdvance : Prop :=
  ∀ (n : Nat) (s : State),
    let period : Int := match s.tac.toNat % 4 with
      | 0 => 1024
      | 1 => 16
      | 2 => 64
      | _ => 256
    (advanceDiv n s =
      if s.divTicks - n > 0 then { s with divTicks := s.divTicks - n }
      else advanceDiv 0 { s with div := BitVec.ofNat 8 (s.div.toNat + 1), divTicks := s.divTicks - n + 256 }) ∧
    (s.tac.getLsbD 2 = false → advanceTima n s = s) ∧
    (s.tac.getLsbD 2 = true → s.timaTicks - n > 0 → advanceTima n s = { s with timaTicks := s.timaTicks - n }) ∧
    (s.tac.getLsbD 2 = true → s.timaTicks - n ≤ 0 → s.tima ≠ 0xFF → advanceTima n s =
      advanceTima 0 { s with timaTicks := s.timaTicks - n + period, tima := BitVec.ofNat 8 (s.tima.toNat + 1) }) ∧
    (s.tac.getLsbD 2 = true → s.timaTicks - n ≤ 0 → s.tima = 0xFF → advanceTima n s =
      advanceTima 0 { s with timaTicks := s.timaTicks - n + period, tima := s.tma, iflag := s.iflag ||| 0b00100 })

/-- How the ticks are cut into slices does not matter to the timer: advancing by `m` and then by `n` is advancing by
`m + n`. Its deadline `cycles()` is that of the divider, or the nearer one if the counter is enabled (R347): before it no
register changes and no request is made, and at it the counter that is due steps once. -/
def Obligations.TimerSlicesCompose : Prop :=
  ∀ (m n : Nat) (s : State),
    advanceTimer n (advanceTimer m s) = advanceTimer (m + n) s ∧
    timerCycles s = (if s.tac.getLsbD 2 then min s.divTicks s.timaTicks else s.divTicks) ∧
    ((n : Int) < timerCycles s → advanceTimer n s = { s with
      divTicks := s.divTicks - n, timaTicks := if s.tac.getLsbD 2 then s.timaTicks - n else s.timaTicks }) ∧
    ((n : Int) = timerCycles s →
      ((n : Int) = s.divTicks → (advanceTimer n s).div = s.div + 1) ∧
      (s.tac.getLsbD 2 = true → (n : Int) = s.timaTicks →
        (advanceTimer n s).tima = if s.tima = 0xFF then s.tma else s.tima + 1))

/-- The timer's registers: any write to DIV clears it and nothing else; TIMA and TMA store and read back; TAC stores bits
2..0, its bits 7..3 read as 1, and every write restarts the counter's tick budget (R342, R345, R346). -/
def Obligations.TimerRegisters : Prop :=
  ∀ (s : State) (v : Byte),
    memWrite s 0xFF04 v = { s with div := 0 } ∧ memRead s 0xFF04 = s.div ∧
    memWrite s 0xFF05 v = { s with tima := v } ∧ memRead s 0xFF05 = s.tima ∧
    memWrite s 0xFF06 v = { s with tma := v } ∧ memRead s 0xFF06 = s.tma ∧
    (memRead s 0xFF07).toNat = 0xF8 + s.tac.toNat ∧
    memWrite s 0xFF07 v = { s with
      tac := BitVec.ofNat 3 (v.toNat % 8)
      timaTicks := (if v.toNat % 4 = 0 then 1024 else if v.toNat % 4 = 1 then 16 else if v.toNat % 4 = 2 then 64 else 256) }

/-! ## Reset, the host, the environment -/

/-- The state after reset: the registers, the control state, the interrupt controller and the timer at the values of R42,
no RAM byte at a known value, cartridge RAM at the persisted image, if there is one, which is what the window then reads
(R380, R402), and the bank registers at R381: whatever the cartridge, 0x4000 shows bank 1, and the RAM window bank 0 if RAM. The joypad's masks (log 4), `joypadWakeOnly` (log 10) and `pc0` (log 11) are at
the model's own choice, and `bank_lo` and `bank_hi` at the values that R381's banks imply. -/
def Obligations.ResetValues : Prop :=
  let s := State.reset
  s.a = 0x01 ∧ s.f = 0xB0 ∧ s.b = 0x00 ∧ s.c = 0x13 ∧ s.d = 0x00 ∧ s.e = 0xD8 ∧ s.h = 0x01 ∧ s.l = 0x4D ∧
  s.sp = 0xFFFE ∧ s.pc = 0x0100 ∧ s.ime = false ∧ s.halted = false ∧ s.eiInhibit = false ∧ s.haltBug = false ∧
  s.fault = none ∧ s.budget = 0 ∧ s.ie = 0x00 ∧ s.iflag = 0b00001 ∧ memRead s 0xFF0F = 0xE1 ∧
  s.div = 0xAB ∧ s.tima = 0x00 ∧ s.tma = 0x00 ∧ memRead s 0xFF07 = 0xF8 ∧ s.divTicks = 256 ∧ s.timaTicks = 1024 ∧
  s.joyDirs = 0b1111 ∧ s.joyActions = 0b1111 ∧ s.joypadWakeOnly = false ∧ s.pc0 = 0x0100 ∧
  (∀ a : Word, ownerOf a = .workRam ∨ ownerOf a = .highRam ∨ ownerOf a = .videoRam ∨ ownerOf a = .oam →
    memRead s a = Config.resetByte s.ramDraw a.toNat) ∧
  (∀ n, s.cartRamByte n = Config.resetCartRam s.ramDraw n) ∧
  (∀ p cart rom draw sched,
    let t := State.resetWith p cart rom draw sched
    t.ramOn = false ∧ t.bankLo = 1 ∧ t.bankHi = 0 ∧ t.bankMode = 0 ∧ t.cartLog = [] ∧
    (1 < cart.romBanks → ∀ a : Word, 0x4000 ≤ a.toNat → a.toNat ≤ 0x7FFF → memRead t a = romImageByte rom a.toNat) ∧
    (t.ramWindow = .closed ∨ t.ramWindow = .ram 0 ∨ t.ramWindow = .register) ∧
    (∀ m, cart.battery = true → cart.saved = some m → t.cartRam = m ∧
      ∀ (a : Word) (v : Byte), ownerOf a = .cartRam → t.ramWindow = .ram 0 →
        Memory.get? m (t.cartRamOffset 0 a) = some v →
        (memRead t a).extractLsb' 0 4 = v.extractLsb' 0 4 ∧ (t.hasNibbleRam = false → memRead t a = v)))

/-- `reset()` takes every register to the parameters' values, keeps the ROM image, the cartridge and the parameters, draws
RAM anew, restores a persisted cartridge RAM, does not depend on the rest of the state before it, and twice is once; the
one exception is the content of RAM (R401, R402; log 3, log 23), so every peripheral register reads the same after each
reset (log 33). A machine with `reset()` as its next move makes it (log 7). -/
def Obligations.ResetProcedure : Prop :=
  (∀ s : State,
    let p := s.params
    let t := hostReset s
    (t.a ++ t.f : Word) = p.resetAF &&& 0xFFF0 ∧ t.bc = p.resetBC ∧ t.de = p.resetDE ∧ t.hl = p.resetHL ∧
    t.sp = p.resetSP ∧ t.pc = p.resetPC ∧ t.ime = p.resetIME ∧ t.halted = false ∧ t.eiInhibit = false ∧
    t.haltBug = false ∧ t.fault = none ∧ t.budget = 0 ∧ t.ie = p.resetIE ∧ t.iflag = p.resetIF ∧
    t.div = p.resetDIV ∧ t.tima = p.resetTIMA ∧ t.tma = p.resetTMA ∧ t.tac = p.resetTAC ∧
    t.divTicks = p.resetDivTicks ∧ t.timaTicks = p.resetTimaTicks ∧
    t.ramOn = false ∧ t.bankLo = 1 ∧ t.bankHi = 0 ∧ t.bankMode = 0 ∧ t.mem = [] ∧
    t.cartRam = (if s.cart.battery then s.cart.saved.getD [] else []) ∧
    t.rom = s.rom ∧ t.cart = s.cart ∧ t.params = s.params ∧
    hostReset t = { t with ramDraw := (hostReset t).ramDraw } ∧
    (∀ rest, s.schedule = .reset :: rest → step s = .next (hostReset { s with schedule := rest }))) ∧
  (∀ s s' : State, s.params = s'.params → s.cart = s'.cart → s.rom = s'.rom → s.schedule = s'.schedule →
    hostReset s = { hostReset s' with ramDraw := (hostReset s).ramDraw } ∧
    ∀ a, ownerOf a = .joypad ∨ ownerOf a = .serial ∨ ownerOf a = .apu ∨ ownerOf a = .ppu →
      memRead (hostReset s) a = memRead (hostReset s') a)

/-- The invariant holds right after reset, and of every machine that the loader starts. -/
def Obligations.ResetInv : Prop :=
  Inv State.reset ∧
  ∀ p image saved sched s, Params.Ok p → (∀ m, saved = some m → Memory.wf .cartRam m = true) →
    startWith p image saved sched = .ok s → Inv s

/-- Every step keeps the invariant: the low nibble of F stays 0, the memories stay canonical, `bank_lo` never becomes 0,
and the tick counters stay above 0. -/
def Obligations.StepKeepsInv : Prop :=
  ∀ s t : State, Inv s → step s = .next t → Inv t

/-- A move of the environment or the host other than `reset()`: it does what `MoveEffect` says of it (R312, R340, R353,
R357, R358), so it changes no CPU register, nor IME, IE, work RAM or high RAM, and clears no request (R353). That these
moves stand in a schedule is the model's form of R353 (log 7, log 26). -/
def Obligations.EnvironmentFrame : Prop :=
  ∀ (s : State) (m : Move) (rest : List Move), s.schedule = m :: rest → s.fault = none → m ≠ .cpu → m ≠ .reset →
    ∃ t, step s = .next t ∧ t.schedule = rest ∧ MoveEffect { s with schedule := rest } t m ∧
      (∀ r, t.reg8 r = s.reg8 r) ∧ t.f = s.f ∧ t.sp = s.sp ∧ t.pc = s.pc ∧ t.ime = s.ime ∧ t.halted = s.halted ∧
      t.eiInhibit = s.eiInhibit ∧ t.haltBug = s.haltBug ∧ t.fault = none ∧ t.ie = s.ie ∧
      (∀ i, s.iflag.getLsbD i = true → t.iflag.getLsbD i = true) ∧
      (∀ a, ownerOf a = .workRam ∨ ownerOf a = .echo ∨ ownerOf a = .highRam → memRead t a = memRead s a) ∧
      t.rom = s.rom ∧ t.cartRam = s.cartRam

/-- The loader's checks: an image that is accepted has the size its header declares, the header checksum over 0x0134 to
0x014C, and a size code the tables know; its bank counts are those of the tables; and its bytes are what ROM reads
(R385). Two points are the model's choice (log 24): that ROM-size codes above 8 are refused, and that a wrong size is
reported as such whatever else fails. -/
def Obligations.LoaderChecks : Prop :=
  ∀ (image : List Byte) (saved : Option Memory),
    (∀ n, romImageByte (romOfBytes image) n = image.getD n 0xFF) ∧
    (∀ cart rom, loadCart image saved = .ok (cart, rom) →
      rom = romOfBytes image ∧ (image.getD 0x148 0xFF).toNat ≤ 8 ∧
      image.length = 0x8000 * 2 ^ (image.getD 0x148 0xFF).toNat ∧ cart.romBanks * 0x4000 = image.length ∧
      ((image.getD 0x149 0xFF).toNat, cart.ramBanks * 8) ∈ [(0, 0), (2, 8), (3, 32), (4, 128), (5, 64)] ∧
      (image.getD 0x14D 0xFF).toNat =
        ((List.range 25).map (fun k => 255 - (image.getD (0x134 + k) 0xFF).toNat)).sum % 256) ∧
    (image.length ≠ 0x8000 * 2 ^ (image.getD 0x148 0xFF).toNat → loadCart image saved = .error .badSize)

/-- Every step of the CPU that does not fault spends 4 to 24 ticks, a multiple of 4, so `emulate` comes to an end: it
leaves the budget at or below 0, and above -24 if it ran, to be carried into the next call (R351). A slice of the bus runs
the CPU for the ticks to the earliest deadline and advances the timer after it by the same ticks (R350, R352), so the
divider steps once if the slice ends at its deadline and not at all otherwise. These functions stand beside the step
(log 9). -/
def Obligations.EmulateSpendsBudget : Prop :=
  (∀ s t : State, cpuStep s = .next t →
    t.fault ≠ none ∨ ∃ k : Int, 1 ≤ k ∧ k ≤ 6 ∧ t.budget = s.budget - 4 * k) ∧
  (∀ (fuel n : Nat) (s t : State), s.budget + n ≤ 4 * fuel → cpuEmulate fuel n s = .next t →
    t.fault ≠ none ∨ t.budget ≤ 0 ∧ (0 < s.budget + n → -24 < t.budget)) ∧
  (∀ (fuel others : Nat) (s u : State), 0 < s.divTicks → busSlice fuel others s = .next u →
    ∃ (n : Nat) (t : State), n = min others (timerCycles s).toNat ∧ cpuEmulate fuel n s = .next t ∧
      u = advanceTimer n t ∧ t.divTicks = s.divTicks ∧ u.div = if (n : Int) = s.divTicks then t.div + 1 else t.div)
end

