-- ==== Sys2Proof/Laws/Bits.lean ====
section
/-! SUPPORT. A 16-bit value and its two bytes determine each other. -/

namespace Sys2Proof

theorem getLsbD_mkWord (hi lo : Byte) (i : Nat) :
    (mkWord hi lo).getLsbD i = if i < 8 then lo.getLsbD i else hi.getLsbD (i - 8) :=
  BitVec.getLsbD_append (x := hi) (y := lo)

@[simp] theorem hi8_mkWord (hi lo : Byte) : hi8 (mkWord hi lo) = hi := by
  apply BitVec.eq_of_getLsbD_eq
  intro i h
  simp [hi8, getLsbD_mkWord, h]

@[simp] theorem lo8_mkWord (hi lo : Byte) : lo8 (mkWord hi lo) = lo := by
  apply BitVec.eq_of_getLsbD_eq
  intro i h
  simp [lo8, getLsbD_mkWord, h]

@[simp] theorem mkWord_hi8_lo8 (v : Word) : mkWord (hi8 v) (lo8 v) = v := by
  apply BitVec.eq_of_getLsbD_eq
  intro i h
  simp only [hi8, lo8, getLsbD_mkWord, BitVec.getLsbD_extractLsb']
  split
  · simp [*]
  · simp [show i - 8 < 8 by omega, show 8 + (i - 8) = i by omega]

theorem toNat_hi8 (v : Word) : (hi8 v).toNat = v.toNat / 256 := by
  have := v.isLt
  simp only [hi8, BitVec.extractLsb'_toNat, Nat.shiftRight_eq_div_pow]
  omega

theorem toNat_lo8 (v : Word) : (lo8 v).toNat = v.toNat % 256 := by
  simp [lo8, BitVec.extractLsb'_toNat]

theorem toNat_mkWord (hi lo : Byte) : (mkWord hi lo).toNat = hi.toNat * 256 + lo.toNat := by
  have h := toNat_hi8 (mkWord hi lo)
  have l := toNat_lo8 (mkWord hi lo)
  simp only [hi8_mkWord, lo8_mkWord] at h l
  omega

end Sys2Proof
end

