-- ==== Sys2Proof/Laws/Memory.lean ====
section
/-! SUPPORT. Memories: a read after a write, and that every operation keeps the canonical form. -/

namespace Sys2Proof.Machine.Memory

variable {sp : Space} {m : Memory} {a b k : Nat} {v w : Byte}

theorem wf_cons : wf sp ((k, v) :: m) = true ↔ above k m = true ∧ unlisted sp ≠ some v ∧ wf sp m = true := by
  simp [wf, and_assoc]

theorem above_mono (h : above k m = true) (hab : a ≤ k) : above a m = true := by
  cases m with
  | nil => rfl
  | cons c m => simp only [above, decide_eq_true_eq] at *; omega

/-- An address below every listed one is not listed. -/
theorem get?_of_above (h : wf sp m = true) (hk : above k m = true) (hak : a ≤ k) : m.get? a = none := by
  induction m generalizing k with
  | nil => rfl
  | cons c m ih =>
    obtain ⟨j, u⟩ := c
    obtain ⟨hj, -, hm⟩ := wf_cons.1 h
    simp only [above, decide_eq_true_eq] at hk
    simp only [get?, if_neg (show ¬ j = a by omega)]
    exact ih hm hj (by omega)

@[simp] theorem get?_set_self (m : Memory) (a : Nat) (v : Byte) : (m.set a v).get? a = some v := by
  induction m with
  | nil => simp [set, get?]
  | cons c m ih =>
    simp only [set]
    split
    · simp [get?]
    · split
      · simp [get?]
      · simp [get?, *]

theorem get?_set_other (m : Memory) (h : b ≠ a) (v : Byte) : (m.set a v).get? b = m.get? b := by
  induction m with
  | nil => simp [set, get?, h.symm]
  | cons c m ih =>
    simp only [set]
    split
    · simp [get?, h.symm]
    · split
      · simp_all [get?, h.symm]
      · simp [get?, ih]

theorem get?_erase_self (h : wf sp m = true) : (m.erase a).get? a = none := by
  induction m with
  | nil => rfl
  | cons c m ih =>
    obtain ⟨j, u⟩ := c
    obtain ⟨hj, -, hm⟩ := wf_cons.1 h
    simp only [erase]
    split
    · subst_vars
      exact get?_of_above hm hj le_rfl
    · simp [get?, *]

theorem get?_erase_other (m : Memory) (h : b ≠ a) : (m.erase a).get? b = m.get? b := by
  induction m with
  | nil => rfl
  | cons c m ih =>
    simp only [erase]
    split
    · simp_all [get?, h.symm]
    · simp [get?, ih]

theorem above_set (hm : above k m = true) (hk : k < a) : above k (m.set a v) = true := by
  cases m with
  | nil => simpa [set, above] using hk
  | cons c m =>
    simp only [set]
    split
    · simpa [above] using hk
    · split
      · simpa [above] using hk
      · simpa [above] using hm

theorem above_erase (h : wf sp m = true) (hm : above k m = true) : above k (m.erase a) = true := by
  cases m with
  | nil => rfl
  | cons c m =>
    obtain ⟨hj, -, -⟩ := wf_cons.1 h
    simp only [above, decide_eq_true_eq] at hm
    simp only [erase]
    split
    · exact above_mono hj hm.le
    · simpa [above] using hm

theorem wf_set (h : wf sp m = true) (hv : unlisted sp ≠ some v) : wf sp (m.set a v) = true := by
  induction m with
  | nil => simp [set, wf, above, hv]
  | cons c m ih =>
    obtain ⟨j, u⟩ := c
    obtain ⟨hj, hu, hm⟩ := wf_cons.1 h
    simp only [set]
    split
    · exact wf_cons.2 ⟨by simpa [above], hv, h⟩
    · split
      · subst_vars
        exact wf_cons.2 ⟨hj, hv, hm⟩
      · exact wf_cons.2 ⟨above_set hj (by omega), hu, ih hm⟩

theorem wf_erase (h : wf sp m = true) : wf sp (m.erase a) = true := by
  induction m with
  | nil => rfl
  | cons c m ih =>
    obtain ⟨j, u⟩ := c
    obtain ⟨hj, hu, hm⟩ := wf_cons.1 h
    simp only [erase]
    split
    · exact hm
    · exact wf_cons.2 ⟨above_erase hm hj, hu, ih hm⟩

/-- Every store keeps the canonical form. -/
theorem wf_store (h : wf sp m = true) (a : Nat) (v : Byte) : wf sp (m.store sp a v) = true := by
  unfold store
  split
  · exact wf_erase h
  · exact wf_set h ‹_›

/-- Reading any address after a store to another: as before. -/
theorem get?_store_other (m : Memory) (h : b ≠ a) (v : Byte) : (m.store sp a v).get? b = m.get? b := by
  unfold store
  split
  · exact get?_erase_other m h
  · exact get?_set_other m h v

/-- In a RAM a store is read back. -/
@[simp] theorem get?_store_onboard (m : Memory) (a : Nat) (v : Byte) :
    (m.store .onboard a v).get? a = some v := by simp [store, unlisted]

@[simp] theorem get?_store_cartRam (m : Memory) (a : Nat) (v : Byte) :
    (m.store .cartRam a v).get? a = some v := by simp [store, unlisted]

/-- In ROM a placed byte is read back. -/
theorem getD_store_rom (h : wf .rom m = true) (a : Nat) (v : Byte) :
    ((m.store .rom a v).get? a).getD 0xFF = v := by
  by_cases hv : (255 : Byte) = v
  · have hs : m.store .rom a v = m.erase a := if_pos (congrArg some hv)
    rw [hs, get?_erase_self h]
    exact hv
  · have hs : m.store .rom a v = m.set a v := if_neg fun e => hv (Option.some.inj e)
    rw [hs, get?_set_self]
    rfl

end Sys2Proof.Machine.Memory
end

