-- ==== Sys2Proof/Laws/State.lean ====
section
/-! SUPPORT. One lemma for each field of State and each update: what the update writes, and that it leaves every other
field as it was. No later proof unfolds a record update. -/

namespace Sys2Proof.Machine

variable (s : State)

/-! `s.spend n` -/

@[simp] theorem spend_a (n : Int) : (s.spend n).a = s.a := rfl
@[simp] theorem spend_f (n : Int) : (s.spend n).f = s.f := rfl
@[simp] theorem spend_b (n : Int) : (s.spend n).b = s.b := rfl
@[simp] theorem spend_c (n : Int) : (s.spend n).c = s.c := rfl
@[simp] theorem spend_d (n : Int) : (s.spend n).d = s.d := rfl
@[simp] theorem spend_e (n : Int) : (s.spend n).e = s.e := rfl
@[simp] theorem spend_h (n : Int) : (s.spend n).h = s.h := rfl
@[simp] theorem spend_l (n : Int) : (s.spend n).l = s.l := rfl
@[simp] theorem spend_sp (n : Int) : (s.spend n).sp = s.sp := rfl
@[simp] theorem spend_pc (n : Int) : (s.spend n).pc = s.pc := rfl
@[simp] theorem spend_ime (n : Int) : (s.spend n).ime = s.ime := rfl
@[simp] theorem spend_halted (n : Int) : (s.spend n).halted = s.halted := rfl
@[simp] theorem spend_eiInhibit (n : Int) : (s.spend n).eiInhibit = s.eiInhibit := rfl
@[simp] theorem spend_haltBug (n : Int) : (s.spend n).haltBug = s.haltBug := rfl
@[simp] theorem spend_budget (n : Int) : (s.spend n).budget = s.budget - n := rfl
@[simp] theorem spend_fault (n : Int) : (s.spend n).fault = s.fault := rfl
@[simp] theorem spend_ie (n : Int) : (s.spend n).ie = s.ie := rfl
@[simp] theorem spend_iflag (n : Int) : (s.spend n).iflag = s.iflag := rfl
@[simp] theorem spend_div (n : Int) : (s.spend n).div = s.div := rfl
@[simp] theorem spend_tima (n : Int) : (s.spend n).tima = s.tima := rfl
@[simp] theorem spend_tma (n : Int) : (s.spend n).tma = s.tma := rfl
@[simp] theorem spend_tac (n : Int) : (s.spend n).tac = s.tac := rfl
@[simp] theorem spend_divTicks (n : Int) : (s.spend n).divTicks = s.divTicks := rfl
@[simp] theorem spend_timaTicks (n : Int) : (s.spend n).timaTicks = s.timaTicks := rfl
@[simp] theorem spend_joyDirs (n : Int) : (s.spend n).joyDirs = s.joyDirs := rfl
@[simp] theorem spend_joyActions (n : Int) : (s.spend n).joyActions = s.joyActions := rfl
@[simp] theorem spend_mem (n : Int) : (s.spend n).mem = s.mem := rfl
@[simp] theorem spend_cartRam (n : Int) : (s.spend n).cartRam = s.cartRam := rfl
@[simp] theorem spend_rom (n : Int) : (s.spend n).rom = s.rom := rfl
@[simp] theorem spend_ramOn (n : Int) : (s.spend n).ramOn = s.ramOn := rfl
@[simp] theorem spend_bankLo (n : Int) : (s.spend n).bankLo = s.bankLo := rfl
@[simp] theorem spend_bankHi (n : Int) : (s.spend n).bankHi = s.bankHi := rfl
@[simp] theorem spend_bankMode (n : Int) : (s.spend n).bankMode = s.bankMode := rfl
@[simp] theorem spend_cartLog (n : Int) : (s.spend n).cartLog = s.cartLog := rfl
@[simp] theorem spend_cart (n : Int) : (s.spend n).cart = s.cart := rfl
@[simp] theorem spend_params (n : Int) : (s.spend n).params = s.params := rfl
@[simp] theorem spend_joypadWakeOnly (n : Int) : (s.spend n).joypadWakeOnly = s.joypadWakeOnly := rfl
@[simp] theorem spend_pc0 (n : Int) : (s.spend n).pc0 = s.pc0 := rfl
@[simp] theorem spend_ramDraw (n : Int) : (s.spend n).ramDraw = s.ramDraw := rfl
@[simp] theorem spend_schedule (n : Int) : (s.spend n).schedule = s.schedule := rfl

/-! `s.setFlags z n h cy` -/

@[simp] theorem setFlags_a (z n h cy : Bool) : (s.setFlags z n h cy).a = s.a := rfl
@[simp] theorem setFlags_f (z n h cy : Bool) : (s.setFlags z n h cy).f = mkF z n h cy := rfl
@[simp] theorem setFlags_b (z n h cy : Bool) : (s.setFlags z n h cy).b = s.b := rfl
@[simp] theorem setFlags_c (z n h cy : Bool) : (s.setFlags z n h cy).c = s.c := rfl
@[simp] theorem setFlags_d (z n h cy : Bool) : (s.setFlags z n h cy).d = s.d := rfl
@[simp] theorem setFlags_e (z n h cy : Bool) : (s.setFlags z n h cy).e = s.e := rfl
@[simp] theorem setFlags_h (z n h cy : Bool) : (s.setFlags z n h cy).h = s.h := rfl
@[simp] theorem setFlags_l (z n h cy : Bool) : (s.setFlags z n h cy).l = s.l := rfl
@[simp] theorem setFlags_sp (z n h cy : Bool) : (s.setFlags z n h cy).sp = s.sp := rfl
@[simp] theorem setFlags_pc (z n h cy : Bool) : (s.setFlags z n h cy).pc = s.pc := rfl
@[simp] theorem setFlags_ime (z n h cy : Bool) : (s.setFlags z n h cy).ime = s.ime := rfl
@[simp] theorem setFlags_halted (z n h cy : Bool) : (s.setFlags z n h cy).halted = s.halted := rfl
@[simp] theorem setFlags_eiInhibit (z n h cy : Bool) : (s.setFlags z n h cy).eiInhibit = s.eiInhibit := rfl
@[simp] theorem setFlags_haltBug (z n h cy : Bool) : (s.setFlags z n h cy).haltBug = s.haltBug := rfl
@[simp] theorem setFlags_budget (z n h cy : Bool) : (s.setFlags z n h cy).budget = s.budget := rfl
@[simp] theorem setFlags_fault (z n h cy : Bool) : (s.setFlags z n h cy).fault = s.fault := rfl
@[simp] theorem setFlags_ie (z n h cy : Bool) : (s.setFlags z n h cy).ie = s.ie := rfl
@[simp] theorem setFlags_iflag (z n h cy : Bool) : (s.setFlags z n h cy).iflag = s.iflag := rfl
@[simp] theorem setFlags_div (z n h cy : Bool) : (s.setFlags z n h cy).div = s.div := rfl
@[simp] theorem setFlags_tima (z n h cy : Bool) : (s.setFlags z n h cy).tima = s.tima := rfl
@[simp] theorem setFlags_tma (z n h cy : Bool) : (s.setFlags z n h cy).tma = s.tma := rfl
@[simp] theorem setFlags_tac (z n h cy : Bool) : (s.setFlags z n h cy).tac = s.tac := rfl
@[simp] theorem setFlags_divTicks (z n h cy : Bool) : (s.setFlags z n h cy).divTicks = s.divTicks := rfl
@[simp] theorem setFlags_timaTicks (z n h cy : Bool) : (s.setFlags z n h cy).timaTicks = s.timaTicks := rfl
@[simp] theorem setFlags_joyDirs (z n h cy : Bool) : (s.setFlags z n h cy).joyDirs = s.joyDirs := rfl
@[simp] theorem setFlags_joyActions (z n h cy : Bool) : (s.setFlags z n h cy).joyActions = s.joyActions := rfl
@[simp] theorem setFlags_mem (z n h cy : Bool) : (s.setFlags z n h cy).mem = s.mem := rfl
@[simp] theorem setFlags_cartRam (z n h cy : Bool) : (s.setFlags z n h cy).cartRam = s.cartRam := rfl
@[simp] theorem setFlags_rom (z n h cy : Bool) : (s.setFlags z n h cy).rom = s.rom := rfl
@[simp] theorem setFlags_ramOn (z n h cy : Bool) : (s.setFlags z n h cy).ramOn = s.ramOn := rfl
@[simp] theorem setFlags_bankLo (z n h cy : Bool) : (s.setFlags z n h cy).bankLo = s.bankLo := rfl
@[simp] theorem setFlags_bankHi (z n h cy : Bool) : (s.setFlags z n h cy).bankHi = s.bankHi := rfl
@[simp] theorem setFlags_bankMode (z n h cy : Bool) : (s.setFlags z n h cy).bankMode = s.bankMode := rfl
@[simp] theorem setFlags_cartLog (z n h cy : Bool) : (s.setFlags z n h cy).cartLog = s.cartLog := rfl
@[simp] theorem setFlags_cart (z n h cy : Bool) : (s.setFlags z n h cy).cart = s.cart := rfl
@[simp] theorem setFlags_params (z n h cy : Bool) : (s.setFlags z n h cy).params = s.params := rfl
@[simp] theorem setFlags_joypadWakeOnly (z n h cy : Bool) : (s.setFlags z n h cy).joypadWakeOnly = s.joypadWakeOnly := rfl
@[simp] theorem setFlags_pc0 (z n h cy : Bool) : (s.setFlags z n h cy).pc0 = s.pc0 := rfl
@[simp] theorem setFlags_ramDraw (z n h cy : Bool) : (s.setFlags z n h cy).ramDraw = s.ramDraw := rfl
@[simp] theorem setFlags_schedule (z n h cy : Bool) : (s.setFlags z n h cy).schedule = s.schedule := rfl

/-! `s.setBc v` -/

@[simp] theorem setBc_a (v : Word) : (s.setBc v).a = s.a := rfl
@[simp] theorem setBc_f (v : Word) : (s.setBc v).f = s.f := rfl
@[simp] theorem setBc_b (v : Word) : (s.setBc v).b = hi8 v := rfl
@[simp] theorem setBc_c (v : Word) : (s.setBc v).c = lo8 v := rfl
@[simp] theorem setBc_d (v : Word) : (s.setBc v).d = s.d := rfl
@[simp] theorem setBc_e (v : Word) : (s.setBc v).e = s.e := rfl
@[simp] theorem setBc_h (v : Word) : (s.setBc v).h = s.h := rfl
@[simp] theorem setBc_l (v : Word) : (s.setBc v).l = s.l := rfl
@[simp] theorem setBc_sp (v : Word) : (s.setBc v).sp = s.sp := rfl
@[simp] theorem setBc_pc (v : Word) : (s.setBc v).pc = s.pc := rfl
@[simp] theorem setBc_ime (v : Word) : (s.setBc v).ime = s.ime := rfl
@[simp] theorem setBc_halted (v : Word) : (s.setBc v).halted = s.halted := rfl
@[simp] theorem setBc_eiInhibit (v : Word) : (s.setBc v).eiInhibit = s.eiInhibit := rfl
@[simp] theorem setBc_haltBug (v : Word) : (s.setBc v).haltBug = s.haltBug := rfl
@[simp] theorem setBc_budget (v : Word) : (s.setBc v).budget = s.budget := rfl
@[simp] theorem setBc_fault (v : Word) : (s.setBc v).fault = s.fault := rfl
@[simp] theorem setBc_ie (v : Word) : (s.setBc v).ie = s.ie := rfl
@[simp] theorem setBc_iflag (v : Word) : (s.setBc v).iflag = s.iflag := rfl
@[simp] theorem setBc_div (v : Word) : (s.setBc v).div = s.div := rfl
@[simp] theorem setBc_tima (v : Word) : (s.setBc v).tima = s.tima := rfl
@[simp] theorem setBc_tma (v : Word) : (s.setBc v).tma = s.tma := rfl
@[simp] theorem setBc_tac (v : Word) : (s.setBc v).tac = s.tac := rfl
@[simp] theorem setBc_divTicks (v : Word) : (s.setBc v).divTicks = s.divTicks := rfl
@[simp] theorem setBc_timaTicks (v : Word) : (s.setBc v).timaTicks = s.timaTicks := rfl
@[simp] theorem setBc_joyDirs (v : Word) : (s.setBc v).joyDirs = s.joyDirs := rfl
@[simp] theorem setBc_joyActions (v : Word) : (s.setBc v).joyActions = s.joyActions := rfl
@[simp] theorem setBc_mem (v : Word) : (s.setBc v).mem = s.mem := rfl
@[simp] theorem setBc_cartRam (v : Word) : (s.setBc v).cartRam = s.cartRam := rfl
@[simp] theorem setBc_rom (v : Word) : (s.setBc v).rom = s.rom := rfl
@[simp] theorem setBc_ramOn (v : Word) : (s.setBc v).ramOn = s.ramOn := rfl
@[simp] theorem setBc_bankLo (v : Word) : (s.setBc v).bankLo = s.bankLo := rfl
@[simp] theorem setBc_bankHi (v : Word) : (s.setBc v).bankHi = s.bankHi := rfl
@[simp] theorem setBc_bankMode (v : Word) : (s.setBc v).bankMode = s.bankMode := rfl
@[simp] theorem setBc_cartLog (v : Word) : (s.setBc v).cartLog = s.cartLog := rfl
@[simp] theorem setBc_cart (v : Word) : (s.setBc v).cart = s.cart := rfl
@[simp] theorem setBc_params (v : Word) : (s.setBc v).params = s.params := rfl
@[simp] theorem setBc_joypadWakeOnly (v : Word) : (s.setBc v).joypadWakeOnly = s.joypadWakeOnly := rfl
@[simp] theorem setBc_pc0 (v : Word) : (s.setBc v).pc0 = s.pc0 := rfl
@[simp] theorem setBc_ramDraw (v : Word) : (s.setBc v).ramDraw = s.ramDraw := rfl
@[simp] theorem setBc_schedule (v : Word) : (s.setBc v).schedule = s.schedule := rfl

/-! `s.setDe v` -/

@[simp] theorem setDe_a (v : Word) : (s.setDe v).a = s.a := rfl
@[simp] theorem setDe_f (v : Word) : (s.setDe v).f = s.f := rfl
@[simp] theorem setDe_b (v : Word) : (s.setDe v).b = s.b := rfl
@[simp] theorem setDe_c (v : Word) : (s.setDe v).c = s.c := rfl
@[simp] theorem setDe_d (v : Word) : (s.setDe v).d = hi8 v := rfl
@[simp] theorem setDe_e (v : Word) : (s.setDe v).e = lo8 v := rfl
@[simp] theorem setDe_h (v : Word) : (s.setDe v).h = s.h := rfl
@[simp] theorem setDe_l (v : Word) : (s.setDe v).l = s.l := rfl
@[simp] theorem setDe_sp (v : Word) : (s.setDe v).sp = s.sp := rfl
@[simp] theorem setDe_pc (v : Word) : (s.setDe v).pc = s.pc := rfl
@[simp] theorem setDe_ime (v : Word) : (s.setDe v).ime = s.ime := rfl
@[simp] theorem setDe_halted (v : Word) : (s.setDe v).halted = s.halted := rfl
@[simp] theorem setDe_eiInhibit (v : Word) : (s.setDe v).eiInhibit = s.eiInhibit := rfl
@[simp] theorem setDe_haltBug (v : Word) : (s.setDe v).haltBug = s.haltBug := rfl
@[simp] theorem setDe_budget (v : Word) : (s.setDe v).budget = s.budget := rfl
@[simp] theorem setDe_fault (v : Word) : (s.setDe v).fault = s.fault := rfl
@[simp] theorem setDe_ie (v : Word) : (s.setDe v).ie = s.ie := rfl
@[simp] theorem setDe_iflag (v : Word) : (s.setDe v).iflag = s.iflag := rfl
@[simp] theorem setDe_div (v : Word) : (s.setDe v).div = s.div := rfl
@[simp] theorem setDe_tima (v : Word) : (s.setDe v).tima = s.tima := rfl
@[simp] theorem setDe_tma (v : Word) : (s.setDe v).tma = s.tma := rfl
@[simp] theorem setDe_tac (v : Word) : (s.setDe v).tac = s.tac := rfl
@[simp] theorem setDe_divTicks (v : Word) : (s.setDe v).divTicks = s.divTicks := rfl
@[simp] theorem setDe_timaTicks (v : Word) : (s.setDe v).timaTicks = s.timaTicks := rfl
@[simp] theorem setDe_joyDirs (v : Word) : (s.setDe v).joyDirs = s.joyDirs := rfl
@[simp] theorem setDe_joyActions (v : Word) : (s.setDe v).joyActions = s.joyActions := rfl
@[simp] theorem setDe_mem (v : Word) : (s.setDe v).mem = s.mem := rfl
@[simp] theorem setDe_cartRam (v : Word) : (s.setDe v).cartRam = s.cartRam := rfl
@[simp] theorem setDe_rom (v : Word) : (s.setDe v).rom = s.rom := rfl
@[simp] theorem setDe_ramOn (v : Word) : (s.setDe v).ramOn = s.ramOn := rfl
@[simp] theorem setDe_bankLo (v : Word) : (s.setDe v).bankLo = s.bankLo := rfl
@[simp] theorem setDe_bankHi (v : Word) : (s.setDe v).bankHi = s.bankHi := rfl
@[simp] theorem setDe_bankMode (v : Word) : (s.setDe v).bankMode = s.bankMode := rfl
@[simp] theorem setDe_cartLog (v : Word) : (s.setDe v).cartLog = s.cartLog := rfl
@[simp] theorem setDe_cart (v : Word) : (s.setDe v).cart = s.cart := rfl
@[simp] theorem setDe_params (v : Word) : (s.setDe v).params = s.params := rfl
@[simp] theorem setDe_joypadWakeOnly (v : Word) : (s.setDe v).joypadWakeOnly = s.joypadWakeOnly := rfl
@[simp] theorem setDe_pc0 (v : Word) : (s.setDe v).pc0 = s.pc0 := rfl
@[simp] theorem setDe_ramDraw (v : Word) : (s.setDe v).ramDraw = s.ramDraw := rfl
@[simp] theorem setDe_schedule (v : Word) : (s.setDe v).schedule = s.schedule := rfl

/-! `s.setHl v` -/

@[simp] theorem setHl_a (v : Word) : (s.setHl v).a = s.a := rfl
@[simp] theorem setHl_f (v : Word) : (s.setHl v).f = s.f := rfl
@[simp] theorem setHl_b (v : Word) : (s.setHl v).b = s.b := rfl
@[simp] theorem setHl_c (v : Word) : (s.setHl v).c = s.c := rfl
@[simp] theorem setHl_d (v : Word) : (s.setHl v).d = s.d := rfl
@[simp] theorem setHl_e (v : Word) : (s.setHl v).e = s.e := rfl
@[simp] theorem setHl_h (v : Word) : (s.setHl v).h = hi8 v := rfl
@[simp] theorem setHl_l (v : Word) : (s.setHl v).l = lo8 v := rfl
@[simp] theorem setHl_sp (v : Word) : (s.setHl v).sp = s.sp := rfl
@[simp] theorem setHl_pc (v : Word) : (s.setHl v).pc = s.pc := rfl
@[simp] theorem setHl_ime (v : Word) : (s.setHl v).ime = s.ime := rfl
@[simp] theorem setHl_halted (v : Word) : (s.setHl v).halted = s.halted := rfl
@[simp] theorem setHl_eiInhibit (v : Word) : (s.setHl v).eiInhibit = s.eiInhibit := rfl
@[simp] theorem setHl_haltBug (v : Word) : (s.setHl v).haltBug = s.haltBug := rfl
@[simp] theorem setHl_budget (v : Word) : (s.setHl v).budget = s.budget := rfl
@[simp] theorem setHl_fault (v : Word) : (s.setHl v).fault = s.fault := rfl
@[simp] theorem setHl_ie (v : Word) : (s.setHl v).ie = s.ie := rfl
@[simp] theorem setHl_iflag (v : Word) : (s.setHl v).iflag = s.iflag := rfl
@[simp] theorem setHl_div (v : Word) : (s.setHl v).div = s.div := rfl
@[simp] theorem setHl_tima (v : Word) : (s.setHl v).tima = s.tima := rfl
@[simp] theorem setHl_tma (v : Word) : (s.setHl v).tma = s.tma := rfl
@[simp] theorem setHl_tac (v : Word) : (s.setHl v).tac = s.tac := rfl
@[simp] theorem setHl_divTicks (v : Word) : (s.setHl v).divTicks = s.divTicks := rfl
@[simp] theorem setHl_timaTicks (v : Word) : (s.setHl v).timaTicks = s.timaTicks := rfl
@[simp] theorem setHl_joyDirs (v : Word) : (s.setHl v).joyDirs = s.joyDirs := rfl
@[simp] theorem setHl_joyActions (v : Word) : (s.setHl v).joyActions = s.joyActions := rfl
@[simp] theorem setHl_mem (v : Word) : (s.setHl v).mem = s.mem := rfl
@[simp] theorem setHl_cartRam (v : Word) : (s.setHl v).cartRam = s.cartRam := rfl
@[simp] theorem setHl_rom (v : Word) : (s.setHl v).rom = s.rom := rfl
@[simp] theorem setHl_ramOn (v : Word) : (s.setHl v).ramOn = s.ramOn := rfl
@[simp] theorem setHl_bankLo (v : Word) : (s.setHl v).bankLo = s.bankLo := rfl
@[simp] theorem setHl_bankHi (v : Word) : (s.setHl v).bankHi = s.bankHi := rfl
@[simp] theorem setHl_bankMode (v : Word) : (s.setHl v).bankMode = s.bankMode := rfl
@[simp] theorem setHl_cartLog (v : Word) : (s.setHl v).cartLog = s.cartLog := rfl
@[simp] theorem setHl_cart (v : Word) : (s.setHl v).cart = s.cart := rfl
@[simp] theorem setHl_params (v : Word) : (s.setHl v).params = s.params := rfl
@[simp] theorem setHl_joypadWakeOnly (v : Word) : (s.setHl v).joypadWakeOnly = s.joypadWakeOnly := rfl
@[simp] theorem setHl_pc0 (v : Word) : (s.setHl v).pc0 = s.pc0 := rfl
@[simp] theorem setHl_ramDraw (v : Word) : (s.setHl v).ramDraw = s.ramDraw := rfl
@[simp] theorem setHl_schedule (v : Word) : (s.setHl v).schedule = s.schedule := rfl

/-! `s.setAf v` -/

@[simp] theorem setAf_a (v : Word) : (s.setAf v).a = hi8 v := rfl
@[simp] theorem setAf_f (v : Word) : (s.setAf v).f = lo8 v &&& 0xF0 := rfl
@[simp] theorem setAf_b (v : Word) : (s.setAf v).b = s.b := rfl
@[simp] theorem setAf_c (v : Word) : (s.setAf v).c = s.c := rfl
@[simp] theorem setAf_d (v : Word) : (s.setAf v).d = s.d := rfl
@[simp] theorem setAf_e (v : Word) : (s.setAf v).e = s.e := rfl
@[simp] theorem setAf_h (v : Word) : (s.setAf v).h = s.h := rfl
@[simp] theorem setAf_l (v : Word) : (s.setAf v).l = s.l := rfl
@[simp] theorem setAf_sp (v : Word) : (s.setAf v).sp = s.sp := rfl
@[simp] theorem setAf_pc (v : Word) : (s.setAf v).pc = s.pc := rfl
@[simp] theorem setAf_ime (v : Word) : (s.setAf v).ime = s.ime := rfl
@[simp] theorem setAf_halted (v : Word) : (s.setAf v).halted = s.halted := rfl
@[simp] theorem setAf_eiInhibit (v : Word) : (s.setAf v).eiInhibit = s.eiInhibit := rfl
@[simp] theorem setAf_haltBug (v : Word) : (s.setAf v).haltBug = s.haltBug := rfl
@[simp] theorem setAf_budget (v : Word) : (s.setAf v).budget = s.budget := rfl
@[simp] theorem setAf_fault (v : Word) : (s.setAf v).fault = s.fault := rfl
@[simp] theorem setAf_ie (v : Word) : (s.setAf v).ie = s.ie := rfl
@[simp] theorem setAf_iflag (v : Word) : (s.setAf v).iflag = s.iflag := rfl
@[simp] theorem setAf_div (v : Word) : (s.setAf v).div = s.div := rfl
@[simp] theorem setAf_tima (v : Word) : (s.setAf v).tima = s.tima := rfl
@[simp] theorem setAf_tma (v : Word) : (s.setAf v).tma = s.tma := rfl
@[simp] theorem setAf_tac (v : Word) : (s.setAf v).tac = s.tac := rfl
@[simp] theorem setAf_divTicks (v : Word) : (s.setAf v).divTicks = s.divTicks := rfl
@[simp] theorem setAf_timaTicks (v : Word) : (s.setAf v).timaTicks = s.timaTicks := rfl
@[simp] theorem setAf_joyDirs (v : Word) : (s.setAf v).joyDirs = s.joyDirs := rfl
@[simp] theorem setAf_joyActions (v : Word) : (s.setAf v).joyActions = s.joyActions := rfl
@[simp] theorem setAf_mem (v : Word) : (s.setAf v).mem = s.mem := rfl
@[simp] theorem setAf_cartRam (v : Word) : (s.setAf v).cartRam = s.cartRam := rfl
@[simp] theorem setAf_rom (v : Word) : (s.setAf v).rom = s.rom := rfl
@[simp] theorem setAf_ramOn (v : Word) : (s.setAf v).ramOn = s.ramOn := rfl
@[simp] theorem setAf_bankLo (v : Word) : (s.setAf v).bankLo = s.bankLo := rfl
@[simp] theorem setAf_bankHi (v : Word) : (s.setAf v).bankHi = s.bankHi := rfl
@[simp] theorem setAf_bankMode (v : Word) : (s.setAf v).bankMode = s.bankMode := rfl
@[simp] theorem setAf_cartLog (v : Word) : (s.setAf v).cartLog = s.cartLog := rfl
@[simp] theorem setAf_cart (v : Word) : (s.setAf v).cart = s.cart := rfl
@[simp] theorem setAf_params (v : Word) : (s.setAf v).params = s.params := rfl
@[simp] theorem setAf_joypadWakeOnly (v : Word) : (s.setAf v).joypadWakeOnly = s.joypadWakeOnly := rfl
@[simp] theorem setAf_pc0 (v : Word) : (s.setAf v).pc0 = s.pc0 := rfl
@[simp] theorem setAf_ramDraw (v : Word) : (s.setAf v).ramDraw = s.ramDraw := rfl
@[simp] theorem setAf_schedule (v : Word) : (s.setAf v).schedule = s.schedule := rfl

/-! `popped s` -/

@[simp] theorem popped_a : (popped s).a = s.a := rfl
@[simp] theorem popped_f : (popped s).f = s.f := rfl
@[simp] theorem popped_b : (popped s).b = s.b := rfl
@[simp] theorem popped_c : (popped s).c = s.c := rfl
@[simp] theorem popped_d : (popped s).d = s.d := rfl
@[simp] theorem popped_e : (popped s).e = s.e := rfl
@[simp] theorem popped_h : (popped s).h = s.h := rfl
@[simp] theorem popped_l : (popped s).l = s.l := rfl
@[simp] theorem popped_sp : (popped s).sp = s.sp + 2 := rfl
@[simp] theorem popped_pc : (popped s).pc = s.pc := rfl
@[simp] theorem popped_ime : (popped s).ime = s.ime := rfl
@[simp] theorem popped_halted : (popped s).halted = s.halted := rfl
@[simp] theorem popped_eiInhibit : (popped s).eiInhibit = s.eiInhibit := rfl
@[simp] theorem popped_haltBug : (popped s).haltBug = s.haltBug := rfl
@[simp] theorem popped_budget : (popped s).budget = s.budget := rfl
@[simp] theorem popped_fault : (popped s).fault = s.fault := rfl
@[simp] theorem popped_ie : (popped s).ie = s.ie := rfl
@[simp] theorem popped_iflag : (popped s).iflag = s.iflag := rfl
@[simp] theorem popped_div : (popped s).div = s.div := rfl
@[simp] theorem popped_tima : (popped s).tima = s.tima := rfl
@[simp] theorem popped_tma : (popped s).tma = s.tma := rfl
@[simp] theorem popped_tac : (popped s).tac = s.tac := rfl
@[simp] theorem popped_divTicks : (popped s).divTicks = s.divTicks := rfl
@[simp] theorem popped_timaTicks : (popped s).timaTicks = s.timaTicks := rfl
@[simp] theorem popped_joyDirs : (popped s).joyDirs = s.joyDirs := rfl
@[simp] theorem popped_joyActions : (popped s).joyActions = s.joyActions := rfl
@[simp] theorem popped_mem : (popped s).mem = s.mem := rfl
@[simp] theorem popped_cartRam : (popped s).cartRam = s.cartRam := rfl
@[simp] theorem popped_rom : (popped s).rom = s.rom := rfl
@[simp] theorem popped_ramOn : (popped s).ramOn = s.ramOn := rfl
@[simp] theorem popped_bankLo : (popped s).bankLo = s.bankLo := rfl
@[simp] theorem popped_bankHi : (popped s).bankHi = s.bankHi := rfl
@[simp] theorem popped_bankMode : (popped s).bankMode = s.bankMode := rfl
@[simp] theorem popped_cartLog : (popped s).cartLog = s.cartLog := rfl
@[simp] theorem popped_cart : (popped s).cart = s.cart := rfl
@[simp] theorem popped_params : (popped s).params = s.params := rfl
@[simp] theorem popped_joypadWakeOnly : (popped s).joypadWakeOnly = s.joypadWakeOnly := rfl
@[simp] theorem popped_pc0 : (popped s).pc0 = s.pc0 := rfl
@[simp] theorem popped_ramDraw : (popped s).ramDraw = s.ramDraw := rfl
@[simp] theorem popped_schedule : (popped s).schedule = s.schedule := rfl

/-! `s.raise m` -/

@[simp] theorem raise_a (m : Byte) : (s.raise m).a = s.a := rfl
@[simp] theorem raise_f (m : Byte) : (s.raise m).f = s.f := rfl
@[simp] theorem raise_b (m : Byte) : (s.raise m).b = s.b := rfl
@[simp] theorem raise_c (m : Byte) : (s.raise m).c = s.c := rfl
@[simp] theorem raise_d (m : Byte) : (s.raise m).d = s.d := rfl
@[simp] theorem raise_e (m : Byte) : (s.raise m).e = s.e := rfl
@[simp] theorem raise_h (m : Byte) : (s.raise m).h = s.h := rfl
@[simp] theorem raise_l (m : Byte) : (s.raise m).l = s.l := rfl
@[simp] theorem raise_sp (m : Byte) : (s.raise m).sp = s.sp := rfl
@[simp] theorem raise_pc (m : Byte) : (s.raise m).pc = s.pc := rfl
@[simp] theorem raise_ime (m : Byte) : (s.raise m).ime = s.ime := rfl
@[simp] theorem raise_halted (m : Byte) : (s.raise m).halted = s.halted := rfl
@[simp] theorem raise_eiInhibit (m : Byte) : (s.raise m).eiInhibit = s.eiInhibit := rfl
@[simp] theorem raise_haltBug (m : Byte) : (s.raise m).haltBug = s.haltBug := rfl
@[simp] theorem raise_budget (m : Byte) : (s.raise m).budget = s.budget := rfl
@[simp] theorem raise_fault (m : Byte) : (s.raise m).fault = s.fault := rfl
@[simp] theorem raise_ie (m : Byte) : (s.raise m).ie = s.ie := rfl
@[simp] theorem raise_iflag (m : Byte) : (s.raise m).iflag = s.iflag ||| m.extractLsb' 0 5 := rfl
@[simp] theorem raise_div (m : Byte) : (s.raise m).div = s.div := rfl
@[simp] theorem raise_tima (m : Byte) : (s.raise m).tima = s.tima := rfl
@[simp] theorem raise_tma (m : Byte) : (s.raise m).tma = s.tma := rfl
@[simp] theorem raise_tac (m : Byte) : (s.raise m).tac = s.tac := rfl
@[simp] theorem raise_divTicks (m : Byte) : (s.raise m).divTicks = s.divTicks := rfl
@[simp] theorem raise_timaTicks (m : Byte) : (s.raise m).timaTicks = s.timaTicks := rfl
@[simp] theorem raise_joyDirs (m : Byte) : (s.raise m).joyDirs = s.joyDirs := rfl
@[simp] theorem raise_joyActions (m : Byte) : (s.raise m).joyActions = s.joyActions := rfl
@[simp] theorem raise_mem (m : Byte) : (s.raise m).mem = s.mem := rfl
@[simp] theorem raise_cartRam (m : Byte) : (s.raise m).cartRam = s.cartRam := rfl
@[simp] theorem raise_rom (m : Byte) : (s.raise m).rom = s.rom := rfl
@[simp] theorem raise_ramOn (m : Byte) : (s.raise m).ramOn = s.ramOn := rfl
@[simp] theorem raise_bankLo (m : Byte) : (s.raise m).bankLo = s.bankLo := rfl
@[simp] theorem raise_bankHi (m : Byte) : (s.raise m).bankHi = s.bankHi := rfl
@[simp] theorem raise_bankMode (m : Byte) : (s.raise m).bankMode = s.bankMode := rfl
@[simp] theorem raise_cartLog (m : Byte) : (s.raise m).cartLog = s.cartLog := rfl
@[simp] theorem raise_cart (m : Byte) : (s.raise m).cart = s.cart := rfl
@[simp] theorem raise_params (m : Byte) : (s.raise m).params = s.params := rfl
@[simp] theorem raise_joypadWakeOnly (m : Byte) : (s.raise m).joypadWakeOnly = s.joypadWakeOnly := rfl
@[simp] theorem raise_pc0 (m : Byte) : (s.raise m).pc0 = s.pc0 := rfl
@[simp] theorem raise_ramDraw (m : Byte) : (s.raise m).ramDraw = s.ramDraw := rfl
@[simp] theorem raise_schedule (m : Byte) : (s.raise m).schedule = s.schedule := rfl

/-! `s.lower m` -/

@[simp] theorem lower_a (m : Byte) : (s.lower m).a = s.a := rfl
@[simp] theorem lower_f (m : Byte) : (s.lower m).f = s.f := rfl
@[simp] theorem lower_b (m : Byte) : (s.lower m).b = s.b := rfl
@[simp] theorem lower_c (m : Byte) : (s.lower m).c = s.c := rfl
@[simp] theorem lower_d (m : Byte) : (s.lower m).d = s.d := rfl
@[simp] theorem lower_e (m : Byte) : (s.lower m).e = s.e := rfl
@[simp] theorem lower_h (m : Byte) : (s.lower m).h = s.h := rfl
@[simp] theorem lower_l (m : Byte) : (s.lower m).l = s.l := rfl
@[simp] theorem lower_sp (m : Byte) : (s.lower m).sp = s.sp := rfl
@[simp] theorem lower_pc (m : Byte) : (s.lower m).pc = s.pc := rfl
@[simp] theorem lower_ime (m : Byte) : (s.lower m).ime = s.ime := rfl
@[simp] theorem lower_halted (m : Byte) : (s.lower m).halted = s.halted := rfl
@[simp] theorem lower_eiInhibit (m : Byte) : (s.lower m).eiInhibit = s.eiInhibit := rfl
@[simp] theorem lower_haltBug (m : Byte) : (s.lower m).haltBug = s.haltBug := rfl
@[simp] theorem lower_budget (m : Byte) : (s.lower m).budget = s.budget := rfl
@[simp] theorem lower_fault (m : Byte) : (s.lower m).fault = s.fault := rfl
@[simp] theorem lower_ie (m : Byte) : (s.lower m).ie = s.ie := rfl
@[simp] theorem lower_iflag (m : Byte) : (s.lower m).iflag = s.iflag &&& ~~~(m.extractLsb' 0 5) := rfl
@[simp] theorem lower_div (m : Byte) : (s.lower m).div = s.div := rfl
@[simp] theorem lower_tima (m : Byte) : (s.lower m).tima = s.tima := rfl
@[simp] theorem lower_tma (m : Byte) : (s.lower m).tma = s.tma := rfl
@[simp] theorem lower_tac (m : Byte) : (s.lower m).tac = s.tac := rfl
@[simp] theorem lower_divTicks (m : Byte) : (s.lower m).divTicks = s.divTicks := rfl
@[simp] theorem lower_timaTicks (m : Byte) : (s.lower m).timaTicks = s.timaTicks := rfl
@[simp] theorem lower_joyDirs (m : Byte) : (s.lower m).joyDirs = s.joyDirs := rfl
@[simp] theorem lower_joyActions (m : Byte) : (s.lower m).joyActions = s.joyActions := rfl
@[simp] theorem lower_mem (m : Byte) : (s.lower m).mem = s.mem := rfl
@[simp] theorem lower_cartRam (m : Byte) : (s.lower m).cartRam = s.cartRam := rfl
@[simp] theorem lower_rom (m : Byte) : (s.lower m).rom = s.rom := rfl
@[simp] theorem lower_ramOn (m : Byte) : (s.lower m).ramOn = s.ramOn := rfl
@[simp] theorem lower_bankLo (m : Byte) : (s.lower m).bankLo = s.bankLo := rfl
@[simp] theorem lower_bankHi (m : Byte) : (s.lower m).bankHi = s.bankHi := rfl
@[simp] theorem lower_bankMode (m : Byte) : (s.lower m).bankMode = s.bankMode := rfl
@[simp] theorem lower_cartLog (m : Byte) : (s.lower m).cartLog = s.cartLog := rfl
@[simp] theorem lower_cart (m : Byte) : (s.lower m).cart = s.cart := rfl
@[simp] theorem lower_params (m : Byte) : (s.lower m).params = s.params := rfl
@[simp] theorem lower_joypadWakeOnly (m : Byte) : (s.lower m).joypadWakeOnly = s.joypadWakeOnly := rfl
@[simp] theorem lower_pc0 (m : Byte) : (s.lower m).pc0 = s.pc0 := rfl
@[simp] theorem lower_ramDraw (m : Byte) : (s.lower m).ramDraw = s.ramDraw := rfl
@[simp] theorem lower_schedule (m : Byte) : (s.lower m).schedule = s.schedule := rfl

/-! `s.setOnboard n v` -/

@[simp] theorem setOnboard_a (n : Nat) (v : Byte) : (s.setOnboard n v).a = s.a := rfl
@[simp] theorem setOnboard_f (n : Nat) (v : Byte) : (s.setOnboard n v).f = s.f := rfl
@[simp] theorem setOnboard_b (n : Nat) (v : Byte) : (s.setOnboard n v).b = s.b := rfl
@[simp] theorem setOnboard_c (n : Nat) (v : Byte) : (s.setOnboard n v).c = s.c := rfl
@[simp] theorem setOnboard_d (n : Nat) (v : Byte) : (s.setOnboard n v).d = s.d := rfl
@[simp] theorem setOnboard_e (n : Nat) (v : Byte) : (s.setOnboard n v).e = s.e := rfl
@[simp] theorem setOnboard_h (n : Nat) (v : Byte) : (s.setOnboard n v).h = s.h := rfl
@[simp] theorem setOnboard_l (n : Nat) (v : Byte) : (s.setOnboard n v).l = s.l := rfl
@[simp] theorem setOnboard_sp (n : Nat) (v : Byte) : (s.setOnboard n v).sp = s.sp := rfl
@[simp] theorem setOnboard_pc (n : Nat) (v : Byte) : (s.setOnboard n v).pc = s.pc := rfl
@[simp] theorem setOnboard_ime (n : Nat) (v : Byte) : (s.setOnboard n v).ime = s.ime := rfl
@[simp] theorem setOnboard_halted (n : Nat) (v : Byte) : (s.setOnboard n v).halted = s.halted := rfl
@[simp] theorem setOnboard_eiInhibit (n : Nat) (v : Byte) : (s.setOnboard n v).eiInhibit = s.eiInhibit := rfl
@[simp] theorem setOnboard_haltBug (n : Nat) (v : Byte) : (s.setOnboard n v).haltBug = s.haltBug := rfl
@[simp] theorem setOnboard_budget (n : Nat) (v : Byte) : (s.setOnboard n v).budget = s.budget := rfl
@[simp] theorem setOnboard_fault (n : Nat) (v : Byte) : (s.setOnboard n v).fault = s.fault := rfl
@[simp] theorem setOnboard_ie (n : Nat) (v : Byte) : (s.setOnboard n v).ie = s.ie := rfl
@[simp] theorem setOnboard_iflag (n : Nat) (v : Byte) : (s.setOnboard n v).iflag = s.iflag := rfl
@[simp] theorem setOnboard_div (n : Nat) (v : Byte) : (s.setOnboard n v).div = s.div := rfl
@[simp] theorem setOnboard_tima (n : Nat) (v : Byte) : (s.setOnboard n v).tima = s.tima := rfl
@[simp] theorem setOnboard_tma (n : Nat) (v : Byte) : (s.setOnboard n v).tma = s.tma := rfl
@[simp] theorem setOnboard_tac (n : Nat) (v : Byte) : (s.setOnboard n v).tac = s.tac := rfl
@[simp] theorem setOnboard_divTicks (n : Nat) (v : Byte) : (s.setOnboard n v).divTicks = s.divTicks := rfl
@[simp] theorem setOnboard_timaTicks (n : Nat) (v : Byte) : (s.setOnboard n v).timaTicks = s.timaTicks := rfl
@[simp] theorem setOnboard_joyDirs (n : Nat) (v : Byte) : (s.setOnboard n v).joyDirs = s.joyDirs := rfl
@[simp] theorem setOnboard_joyActions (n : Nat) (v : Byte) : (s.setOnboard n v).joyActions = s.joyActions := rfl
@[simp] theorem setOnboard_mem (n : Nat) (v : Byte) : (s.setOnboard n v).mem = s.mem.store .onboard n v := rfl
@[simp] theorem setOnboard_cartRam (n : Nat) (v : Byte) : (s.setOnboard n v).cartRam = s.cartRam := rfl
@[simp] theorem setOnboard_rom (n : Nat) (v : Byte) : (s.setOnboard n v).rom = s.rom := rfl
@[simp] theorem setOnboard_ramOn (n : Nat) (v : Byte) : (s.setOnboard n v).ramOn = s.ramOn := rfl
@[simp] theorem setOnboard_bankLo (n : Nat) (v : Byte) : (s.setOnboard n v).bankLo = s.bankLo := rfl
@[simp] theorem setOnboard_bankHi (n : Nat) (v : Byte) : (s.setOnboard n v).bankHi = s.bankHi := rfl
@[simp] theorem setOnboard_bankMode (n : Nat) (v : Byte) : (s.setOnboard n v).bankMode = s.bankMode := rfl
@[simp] theorem setOnboard_cartLog (n : Nat) (v : Byte) : (s.setOnboard n v).cartLog = s.cartLog := rfl
@[simp] theorem setOnboard_cart (n : Nat) (v : Byte) : (s.setOnboard n v).cart = s.cart := rfl
@[simp] theorem setOnboard_params (n : Nat) (v : Byte) : (s.setOnboard n v).params = s.params := rfl
@[simp] theorem setOnboard_joypadWakeOnly (n : Nat) (v : Byte) : (s.setOnboard n v).joypadWakeOnly = s.joypadWakeOnly := rfl
@[simp] theorem setOnboard_pc0 (n : Nat) (v : Byte) : (s.setOnboard n v).pc0 = s.pc0 := rfl
@[simp] theorem setOnboard_ramDraw (n : Nat) (v : Byte) : (s.setOnboard n v).ramDraw = s.ramDraw := rfl
@[simp] theorem setOnboard_schedule (n : Nat) (v : Byte) : (s.setOnboard n v).schedule = s.schedule := rfl

/-! `s.setCartRamByte n v` -/

@[simp] theorem setCartRamByte_a (n : Nat) (v : Byte) : (s.setCartRamByte n v).a = s.a := rfl
@[simp] theorem setCartRamByte_f (n : Nat) (v : Byte) : (s.setCartRamByte n v).f = s.f := rfl
@[simp] theorem setCartRamByte_b (n : Nat) (v : Byte) : (s.setCartRamByte n v).b = s.b := rfl
@[simp] theorem setCartRamByte_c (n : Nat) (v : Byte) : (s.setCartRamByte n v).c = s.c := rfl
@[simp] theorem setCartRamByte_d (n : Nat) (v : Byte) : (s.setCartRamByte n v).d = s.d := rfl
@[simp] theorem setCartRamByte_e (n : Nat) (v : Byte) : (s.setCartRamByte n v).e = s.e := rfl
@[simp] theorem setCartRamByte_h (n : Nat) (v : Byte) : (s.setCartRamByte n v).h = s.h := rfl
@[simp] theorem setCartRamByte_l (n : Nat) (v : Byte) : (s.setCartRamByte n v).l = s.l := rfl
@[simp] theorem setCartRamByte_sp (n : Nat) (v : Byte) : (s.setCartRamByte n v).sp = s.sp := rfl
@[simp] theorem setCartRamByte_pc (n : Nat) (v : Byte) : (s.setCartRamByte n v).pc = s.pc := rfl
@[simp] theorem setCartRamByte_ime (n : Nat) (v : Byte) : (s.setCartRamByte n v).ime = s.ime := rfl
@[simp] theorem setCartRamByte_halted (n : Nat) (v : Byte) : (s.setCartRamByte n v).halted = s.halted := rfl
@[simp] theorem setCartRamByte_eiInhibit (n : Nat) (v : Byte) : (s.setCartRamByte n v).eiInhibit = s.eiInhibit := rfl
@[simp] theorem setCartRamByte_haltBug (n : Nat) (v : Byte) : (s.setCartRamByte n v).haltBug = s.haltBug := rfl
@[simp] theorem setCartRamByte_budget (n : Nat) (v : Byte) : (s.setCartRamByte n v).budget = s.budget := rfl
@[simp] theorem setCartRamByte_fault (n : Nat) (v : Byte) : (s.setCartRamByte n v).fault = s.fault := rfl
@[simp] theorem setCartRamByte_ie (n : Nat) (v : Byte) : (s.setCartRamByte n v).ie = s.ie := rfl
@[simp] theorem setCartRamByte_iflag (n : Nat) (v : Byte) : (s.setCartRamByte n v).iflag = s.iflag := rfl
@[simp] theorem setCartRamByte_div (n : Nat) (v : Byte) : (s.setCartRamByte n v).div = s.div := rfl
@[simp] theorem setCartRamByte_tima (n : Nat) (v : Byte) : (s.setCartRamByte n v).tima = s.tima := rfl
@[simp] theorem setCartRamByte_tma (n : Nat) (v : Byte) : (s.setCartRamByte n v).tma = s.tma := rfl
@[simp] theorem setCartRamByte_tac (n : Nat) (v : Byte) : (s.setCartRamByte n v).tac = s.tac := rfl
@[simp] theorem setCartRamByte_divTicks (n : Nat) (v : Byte) : (s.setCartRamByte n v).divTicks = s.divTicks := rfl
@[simp] theorem setCartRamByte_timaTicks (n : Nat) (v : Byte) : (s.setCartRamByte n v).timaTicks = s.timaTicks := rfl
@[simp] theorem setCartRamByte_joyDirs (n : Nat) (v : Byte) : (s.setCartRamByte n v).joyDirs = s.joyDirs := rfl
@[simp] theorem setCartRamByte_joyActions (n : Nat) (v : Byte) : (s.setCartRamByte n v).joyActions = s.joyActions := rfl
@[simp] theorem setCartRamByte_mem (n : Nat) (v : Byte) : (s.setCartRamByte n v).mem = s.mem := rfl
@[simp] theorem setCartRamByte_cartRam (n : Nat) (v : Byte) : (s.setCartRamByte n v).cartRam = s.cartRam.store .cartRam n v := rfl
@[simp] theorem setCartRamByte_rom (n : Nat) (v : Byte) : (s.setCartRamByte n v).rom = s.rom := rfl
@[simp] theorem setCartRamByte_ramOn (n : Nat) (v : Byte) : (s.setCartRamByte n v).ramOn = s.ramOn := rfl
@[simp] theorem setCartRamByte_bankLo (n : Nat) (v : Byte) : (s.setCartRamByte n v).bankLo = s.bankLo := rfl
@[simp] theorem setCartRamByte_bankHi (n : Nat) (v : Byte) : (s.setCartRamByte n v).bankHi = s.bankHi := rfl
@[simp] theorem setCartRamByte_bankMode (n : Nat) (v : Byte) : (s.setCartRamByte n v).bankMode = s.bankMode := rfl
@[simp] theorem setCartRamByte_cartLog (n : Nat) (v : Byte) : (s.setCartRamByte n v).cartLog = s.cartLog := rfl
@[simp] theorem setCartRamByte_cart (n : Nat) (v : Byte) : (s.setCartRamByte n v).cart = s.cart := rfl
@[simp] theorem setCartRamByte_params (n : Nat) (v : Byte) : (s.setCartRamByte n v).params = s.params := rfl
@[simp] theorem setCartRamByte_joypadWakeOnly (n : Nat) (v : Byte) : (s.setCartRamByte n v).joypadWakeOnly = s.joypadWakeOnly := rfl
@[simp] theorem setCartRamByte_pc0 (n : Nat) (v : Byte) : (s.setCartRamByte n v).pc0 = s.pc0 := rfl
@[simp] theorem setCartRamByte_ramDraw (n : Nat) (v : Byte) : (s.setCartRamByte n v).ramDraw = s.ramDraw := rfl
@[simp] theorem setCartRamByte_schedule (n : Nat) (v : Byte) : (s.setCartRamByte n v).schedule = s.schedule := rfl

/-! `afterFetch s` -/

@[simp] theorem afterFetch_a : (afterFetch s).a = s.a := rfl
@[simp] theorem afterFetch_f : (afterFetch s).f = s.f := rfl
@[simp] theorem afterFetch_b : (afterFetch s).b = s.b := rfl
@[simp] theorem afterFetch_c : (afterFetch s).c = s.c := rfl
@[simp] theorem afterFetch_d : (afterFetch s).d = s.d := rfl
@[simp] theorem afterFetch_e : (afterFetch s).e = s.e := rfl
@[simp] theorem afterFetch_h : (afterFetch s).h = s.h := rfl
@[simp] theorem afterFetch_l : (afterFetch s).l = s.l := rfl
@[simp] theorem afterFetch_sp : (afterFetch s).sp = s.sp := rfl
@[simp] theorem afterFetch_pc : (afterFetch s).pc = afterOpcode s + BitVec.ofNat 16 (instrLength (fetchOpcode s) - 1) := rfl
@[simp] theorem afterFetch_ime : (afterFetch s).ime = s.ime := rfl
@[simp] theorem afterFetch_halted : (afterFetch s).halted = s.halted := rfl
@[simp] theorem afterFetch_eiInhibit : (afterFetch s).eiInhibit = s.eiInhibit := rfl
@[simp] theorem afterFetch_haltBug : (afterFetch s).haltBug = false := rfl
@[simp] theorem afterFetch_budget : (afterFetch s).budget = s.budget := rfl
@[simp] theorem afterFetch_fault : (afterFetch s).fault = s.fault := rfl
@[simp] theorem afterFetch_ie : (afterFetch s).ie = s.ie := rfl
@[simp] theorem afterFetch_iflag : (afterFetch s).iflag = s.iflag := rfl
@[simp] theorem afterFetch_div : (afterFetch s).div = s.div := rfl
@[simp] theorem afterFetch_tima : (afterFetch s).tima = s.tima := rfl
@[simp] theorem afterFetch_tma : (afterFetch s).tma = s.tma := rfl
@[simp] theorem afterFetch_tac : (afterFetch s).tac = s.tac := rfl
@[simp] theorem afterFetch_divTicks : (afterFetch s).divTicks = s.divTicks := rfl
@[simp] theorem afterFetch_timaTicks : (afterFetch s).timaTicks = s.timaTicks := rfl
@[simp] theorem afterFetch_joyDirs : (afterFetch s).joyDirs = s.joyDirs := rfl
@[simp] theorem afterFetch_joyActions : (afterFetch s).joyActions = s.joyActions := rfl
@[simp] theorem afterFetch_mem : (afterFetch s).mem = s.mem := rfl
@[simp] theorem afterFetch_cartRam : (afterFetch s).cartRam = s.cartRam := rfl
@[simp] theorem afterFetch_rom : (afterFetch s).rom = s.rom := rfl
@[simp] theorem afterFetch_ramOn : (afterFetch s).ramOn = s.ramOn := rfl
@[simp] theorem afterFetch_bankLo : (afterFetch s).bankLo = s.bankLo := rfl
@[simp] theorem afterFetch_bankHi : (afterFetch s).bankHi = s.bankHi := rfl
@[simp] theorem afterFetch_bankMode : (afterFetch s).bankMode = s.bankMode := rfl
@[simp] theorem afterFetch_cartLog : (afterFetch s).cartLog = s.cartLog := rfl
@[simp] theorem afterFetch_cart : (afterFetch s).cart = s.cart := rfl
@[simp] theorem afterFetch_params : (afterFetch s).params = s.params := rfl
@[simp] theorem afterFetch_joypadWakeOnly : (afterFetch s).joypadWakeOnly = s.joypadWakeOnly := rfl
@[simp] theorem afterFetch_pc0 : (afterFetch s).pc0 = s.pc := rfl
@[simp] theorem afterFetch_ramDraw : (afterFetch s).ramDraw = s.ramDraw := rfl
@[simp] theorem afterFetch_schedule : (afterFetch s).schedule = s.schedule := rfl

/-! `s.setReg8 r v` -/

@[simp] theorem setReg8_f (r : Reg8) (v : Byte) : (s.setReg8 r v).f = s.f := by cases r <;> rfl
@[simp] theorem setReg8_sp (r : Reg8) (v : Byte) : (s.setReg8 r v).sp = s.sp := by cases r <;> rfl
@[simp] theorem setReg8_pc (r : Reg8) (v : Byte) : (s.setReg8 r v).pc = s.pc := by cases r <;> rfl
@[simp] theorem setReg8_ime (r : Reg8) (v : Byte) : (s.setReg8 r v).ime = s.ime := by cases r <;> rfl
@[simp] theorem setReg8_halted (r : Reg8) (v : Byte) : (s.setReg8 r v).halted = s.halted := by cases r <;> rfl
@[simp] theorem setReg8_eiInhibit (r : Reg8) (v : Byte) : (s.setReg8 r v).eiInhibit = s.eiInhibit := by cases r <;> rfl
@[simp] theorem setReg8_haltBug (r : Reg8) (v : Byte) : (s.setReg8 r v).haltBug = s.haltBug := by cases r <;> rfl
@[simp] theorem setReg8_budget (r : Reg8) (v : Byte) : (s.setReg8 r v).budget = s.budget := by cases r <;> rfl
@[simp] theorem setReg8_fault (r : Reg8) (v : Byte) : (s.setReg8 r v).fault = s.fault := by cases r <;> rfl
@[simp] theorem setReg8_ie (r : Reg8) (v : Byte) : (s.setReg8 r v).ie = s.ie := by cases r <;> rfl
@[simp] theorem setReg8_iflag (r : Reg8) (v : Byte) : (s.setReg8 r v).iflag = s.iflag := by cases r <;> rfl
@[simp] theorem setReg8_div (r : Reg8) (v : Byte) : (s.setReg8 r v).div = s.div := by cases r <;> rfl
@[simp] theorem setReg8_tima (r : Reg8) (v : Byte) : (s.setReg8 r v).tima = s.tima := by cases r <;> rfl
@[simp] theorem setReg8_tma (r : Reg8) (v : Byte) : (s.setReg8 r v).tma = s.tma := by cases r <;> rfl
@[simp] theorem setReg8_tac (r : Reg8) (v : Byte) : (s.setReg8 r v).tac = s.tac := by cases r <;> rfl
@[simp] theorem setReg8_divTicks (r : Reg8) (v : Byte) : (s.setReg8 r v).divTicks = s.divTicks := by cases r <;> rfl
@[simp] theorem setReg8_timaTicks (r : Reg8) (v : Byte) : (s.setReg8 r v).timaTicks = s.timaTicks := by cases r <;> rfl
@[simp] theorem setReg8_joyDirs (r : Reg8) (v : Byte) : (s.setReg8 r v).joyDirs = s.joyDirs := by cases r <;> rfl
@[simp] theorem setReg8_joyActions (r : Reg8) (v : Byte) : (s.setReg8 r v).joyActions = s.joyActions := by cases r <;> rfl
@[simp] theorem setReg8_mem (r : Reg8) (v : Byte) : (s.setReg8 r v).mem = s.mem := by cases r <;> rfl
@[simp] theorem setReg8_cartRam (r : Reg8) (v : Byte) : (s.setReg8 r v).cartRam = s.cartRam := by cases r <;> rfl
@[simp] theorem setReg8_rom (r : Reg8) (v : Byte) : (s.setReg8 r v).rom = s.rom := by cases r <;> rfl
@[simp] theorem setReg8_ramOn (r : Reg8) (v : Byte) : (s.setReg8 r v).ramOn = s.ramOn := by cases r <;> rfl
@[simp] theorem setReg8_bankLo (r : Reg8) (v : Byte) : (s.setReg8 r v).bankLo = s.bankLo := by cases r <;> rfl
@[simp] theorem setReg8_bankHi (r : Reg8) (v : Byte) : (s.setReg8 r v).bankHi = s.bankHi := by cases r <;> rfl
@[simp] theorem setReg8_bankMode (r : Reg8) (v : Byte) : (s.setReg8 r v).bankMode = s.bankMode := by cases r <;> rfl
@[simp] theorem setReg8_cartLog (r : Reg8) (v : Byte) : (s.setReg8 r v).cartLog = s.cartLog := by cases r <;> rfl
@[simp] theorem setReg8_cart (r : Reg8) (v : Byte) : (s.setReg8 r v).cart = s.cart := by cases r <;> rfl
@[simp] theorem setReg8_params (r : Reg8) (v : Byte) : (s.setReg8 r v).params = s.params := by cases r <;> rfl
@[simp] theorem setReg8_joypadWakeOnly (r : Reg8) (v : Byte) : (s.setReg8 r v).joypadWakeOnly = s.joypadWakeOnly := by cases r <;> rfl
@[simp] theorem setReg8_pc0 (r : Reg8) (v : Byte) : (s.setReg8 r v).pc0 = s.pc0 := by cases r <;> rfl
@[simp] theorem setReg8_ramDraw (r : Reg8) (v : Byte) : (s.setReg8 r v).ramDraw = s.ramDraw := by cases r <;> rfl
@[simp] theorem setReg8_schedule (r : Reg8) (v : Byte) : (s.setReg8 r v).schedule = s.schedule := by cases r <;> rfl
@[simp] theorem setReg8_at_a (v : Byte) : s.setReg8 .a v = { s with a := v } := rfl
@[simp] theorem setReg8_at_b (v : Byte) : s.setReg8 .b v = { s with b := v } := rfl
@[simp] theorem setReg8_at_c (v : Byte) : s.setReg8 .c v = { s with c := v } := rfl
@[simp] theorem setReg8_at_d (v : Byte) : s.setReg8 .d v = { s with d := v } := rfl
@[simp] theorem setReg8_at_e (v : Byte) : s.setReg8 .e v = { s with e := v } := rfl
@[simp] theorem setReg8_at_h (v : Byte) : s.setReg8 .h v = { s with h := v } := rfl
@[simp] theorem setReg8_at_l (v : Byte) : s.setReg8 .l v = { s with l := v } := rfl

@[simp] theorem reg8_setReg8 (r q : Reg8) (v : Byte) :
    (s.setReg8 r v).reg8 q = if q = r then v else s.reg8 q := by
  cases r <;> cases q <;> rfl

@[simp] theorem reg8_at_a : s.reg8 .a = s.a := rfl
@[simp] theorem reg8_at_b : s.reg8 .b = s.b := rfl
@[simp] theorem reg8_at_c : s.reg8 .c = s.c := rfl
@[simp] theorem reg8_at_d : s.reg8 .d = s.d := rfl
@[simp] theorem reg8_at_e : s.reg8 .e = s.e := rfl
@[simp] theorem reg8_at_h : s.reg8 .h = s.h := rfl
@[simp] theorem reg8_at_l : s.reg8 .l = s.l := rfl

/-! `s.setReg16 p v` -/

@[simp] theorem setReg16_a (p : Reg16) (v : Word) : (s.setReg16 p v).a = s.a := by cases p <;> rfl
@[simp] theorem setReg16_f (p : Reg16) (v : Word) : (s.setReg16 p v).f = s.f := by cases p <;> rfl
@[simp] theorem setReg16_pc (p : Reg16) (v : Word) : (s.setReg16 p v).pc = s.pc := by cases p <;> rfl
@[simp] theorem setReg16_ime (p : Reg16) (v : Word) : (s.setReg16 p v).ime = s.ime := by cases p <;> rfl
@[simp] theorem setReg16_halted (p : Reg16) (v : Word) : (s.setReg16 p v).halted = s.halted := by cases p <;> rfl
@[simp] theorem setReg16_eiInhibit (p : Reg16) (v : Word) : (s.setReg16 p v).eiInhibit = s.eiInhibit := by cases p <;> rfl
@[simp] theorem setReg16_haltBug (p : Reg16) (v : Word) : (s.setReg16 p v).haltBug = s.haltBug := by cases p <;> rfl
@[simp] theorem setReg16_budget (p : Reg16) (v : Word) : (s.setReg16 p v).budget = s.budget := by cases p <;> rfl
@[simp] theorem setReg16_fault (p : Reg16) (v : Word) : (s.setReg16 p v).fault = s.fault := by cases p <;> rfl
@[simp] theorem setReg16_ie (p : Reg16) (v : Word) : (s.setReg16 p v).ie = s.ie := by cases p <;> rfl
@[simp] theorem setReg16_iflag (p : Reg16) (v : Word) : (s.setReg16 p v).iflag = s.iflag := by cases p <;> rfl
@[simp] theorem setReg16_div (p : Reg16) (v : Word) : (s.setReg16 p v).div = s.div := by cases p <;> rfl
@[simp] theorem setReg16_tima (p : Reg16) (v : Word) : (s.setReg16 p v).tima = s.tima := by cases p <;> rfl
@[simp] theorem setReg16_tma (p : Reg16) (v : Word) : (s.setReg16 p v).tma = s.tma := by cases p <;> rfl
@[simp] theorem setReg16_tac (p : Reg16) (v : Word) : (s.setReg16 p v).tac = s.tac := by cases p <;> rfl
@[simp] theorem setReg16_divTicks (p : Reg16) (v : Word) : (s.setReg16 p v).divTicks = s.divTicks := by cases p <;> rfl
@[simp] theorem setReg16_timaTicks (p : Reg16) (v : Word) : (s.setReg16 p v).timaTicks = s.timaTicks := by cases p <;> rfl
@[simp] theorem setReg16_joyDirs (p : Reg16) (v : Word) : (s.setReg16 p v).joyDirs = s.joyDirs := by cases p <;> rfl
@[simp] theorem setReg16_joyActions (p : Reg16) (v : Word) : (s.setReg16 p v).joyActions = s.joyActions := by cases p <;> rfl
@[simp] theorem setReg16_mem (p : Reg16) (v : Word) : (s.setReg16 p v).mem = s.mem := by cases p <;> rfl
@[simp] theorem setReg16_cartRam (p : Reg16) (v : Word) : (s.setReg16 p v).cartRam = s.cartRam := by cases p <;> rfl
@[simp] theorem setReg16_rom (p : Reg16) (v : Word) : (s.setReg16 p v).rom = s.rom := by cases p <;> rfl
@[simp] theorem setReg16_ramOn (p : Reg16) (v : Word) : (s.setReg16 p v).ramOn = s.ramOn := by cases p <;> rfl
@[simp] theorem setReg16_bankLo (p : Reg16) (v : Word) : (s.setReg16 p v).bankLo = s.bankLo := by cases p <;> rfl
@[simp] theorem setReg16_bankHi (p : Reg16) (v : Word) : (s.setReg16 p v).bankHi = s.bankHi := by cases p <;> rfl
@[simp] theorem setReg16_bankMode (p : Reg16) (v : Word) : (s.setReg16 p v).bankMode = s.bankMode := by cases p <;> rfl
@[simp] theorem setReg16_cartLog (p : Reg16) (v : Word) : (s.setReg16 p v).cartLog = s.cartLog := by cases p <;> rfl
@[simp] theorem setReg16_cart (p : Reg16) (v : Word) : (s.setReg16 p v).cart = s.cart := by cases p <;> rfl
@[simp] theorem setReg16_params (p : Reg16) (v : Word) : (s.setReg16 p v).params = s.params := by cases p <;> rfl
@[simp] theorem setReg16_joypadWakeOnly (p : Reg16) (v : Word) : (s.setReg16 p v).joypadWakeOnly = s.joypadWakeOnly := by cases p <;> rfl
@[simp] theorem setReg16_pc0 (p : Reg16) (v : Word) : (s.setReg16 p v).pc0 = s.pc0 := by cases p <;> rfl
@[simp] theorem setReg16_ramDraw (p : Reg16) (v : Word) : (s.setReg16 p v).ramDraw = s.ramDraw := by cases p <;> rfl
@[simp] theorem setReg16_schedule (p : Reg16) (v : Word) : (s.setReg16 p v).schedule = s.schedule := by cases p <;> rfl

@[simp] theorem bc_setBc (v : Word) : (s.setBc v).bc = v := mkWord_hi8_lo8 v
@[simp] theorem de_setDe (v : Word) : (s.setDe v).de = v := mkWord_hi8_lo8 v
@[simp] theorem hl_setHl (v : Word) : (s.setHl v).hl = v := mkWord_hi8_lo8 v

theorem reg16_setReg16 (p q : Reg16) (v : Word) :
    (s.setReg16 p v).reg16 q = if q = p then v else s.reg16 q := by
  cases p <;> cases q <;> first | rfl | exact mkWord_hi8_lo8 v

/-! `s.setStackReg q v` -/

@[simp] theorem setStackReg_sp (q : StackReg) (v : Word) : (s.setStackReg q v).sp = s.sp := by cases q <;> rfl
@[simp] theorem setStackReg_pc (q : StackReg) (v : Word) : (s.setStackReg q v).pc = s.pc := by cases q <;> rfl
@[simp] theorem setStackReg_ime (q : StackReg) (v : Word) : (s.setStackReg q v).ime = s.ime := by cases q <;> rfl
@[simp] theorem setStackReg_halted (q : StackReg) (v : Word) : (s.setStackReg q v).halted = s.halted := by cases q <;> rfl
@[simp] theorem setStackReg_eiInhibit (q : StackReg) (v : Word) : (s.setStackReg q v).eiInhibit = s.eiInhibit := by cases q <;> rfl
@[simp] theorem setStackReg_haltBug (q : StackReg) (v : Word) : (s.setStackReg q v).haltBug = s.haltBug := by cases q <;> rfl
@[simp] theorem setStackReg_budget (q : StackReg) (v : Word) : (s.setStackReg q v).budget = s.budget := by cases q <;> rfl
@[simp] theorem setStackReg_fault (q : StackReg) (v : Word) : (s.setStackReg q v).fault = s.fault := by cases q <;> rfl
@[simp] theorem setStackReg_ie (q : StackReg) (v : Word) : (s.setStackReg q v).ie = s.ie := by cases q <;> rfl
@[simp] theorem setStackReg_iflag (q : StackReg) (v : Word) : (s.setStackReg q v).iflag = s.iflag := by cases q <;> rfl
@[simp] theorem setStackReg_div (q : StackReg) (v : Word) : (s.setStackReg q v).div = s.div := by cases q <;> rfl
@[simp] theorem setStackReg_tima (q : StackReg) (v : Word) : (s.setStackReg q v).tima = s.tima := by cases q <;> rfl
@[simp] theorem setStackReg_tma (q : StackReg) (v : Word) : (s.setStackReg q v).tma = s.tma := by cases q <;> rfl
@[simp] theorem setStackReg_tac (q : StackReg) (v : Word) : (s.setStackReg q v).tac = s.tac := by cases q <;> rfl
@[simp] theorem setStackReg_divTicks (q : StackReg) (v : Word) : (s.setStackReg q v).divTicks = s.divTicks := by cases q <;> rfl
@[simp] theorem setStackReg_timaTicks (q : StackReg) (v : Word) : (s.setStackReg q v).timaTicks = s.timaTicks := by cases q <;> rfl
@[simp] theorem setStackReg_joyDirs (q : StackReg) (v : Word) : (s.setStackReg q v).joyDirs = s.joyDirs := by cases q <;> rfl
@[simp] theorem setStackReg_joyActions (q : StackReg) (v : Word) : (s.setStackReg q v).joyActions = s.joyActions := by cases q <;> rfl
@[simp] theorem setStackReg_mem (q : StackReg) (v : Word) : (s.setStackReg q v).mem = s.mem := by cases q <;> rfl
@[simp] theorem setStackReg_cartRam (q : StackReg) (v : Word) : (s.setStackReg q v).cartRam = s.cartRam := by cases q <;> rfl
@[simp] theorem setStackReg_rom (q : StackReg) (v : Word) : (s.setStackReg q v).rom = s.rom := by cases q <;> rfl
@[simp] theorem setStackReg_ramOn (q : StackReg) (v : Word) : (s.setStackReg q v).ramOn = s.ramOn := by cases q <;> rfl
@[simp] theorem setStackReg_bankLo (q : StackReg) (v : Word) : (s.setStackReg q v).bankLo = s.bankLo := by cases q <;> rfl
@[simp] theorem setStackReg_bankHi (q : StackReg) (v : Word) : (s.setStackReg q v).bankHi = s.bankHi := by cases q <;> rfl
@[simp] theorem setStackReg_bankMode (q : StackReg) (v : Word) : (s.setStackReg q v).bankMode = s.bankMode := by cases q <;> rfl
@[simp] theorem setStackReg_cartLog (q : StackReg) (v : Word) : (s.setStackReg q v).cartLog = s.cartLog := by cases q <;> rfl
@[simp] theorem setStackReg_cart (q : StackReg) (v : Word) : (s.setStackReg q v).cart = s.cart := by cases q <;> rfl
@[simp] theorem setStackReg_params (q : StackReg) (v : Word) : (s.setStackReg q v).params = s.params := by cases q <;> rfl
@[simp] theorem setStackReg_joypadWakeOnly (q : StackReg) (v : Word) : (s.setStackReg q v).joypadWakeOnly = s.joypadWakeOnly := by cases q <;> rfl
@[simp] theorem setStackReg_pc0 (q : StackReg) (v : Word) : (s.setStackReg q v).pc0 = s.pc0 := by cases q <;> rfl
@[simp] theorem setStackReg_ramDraw (q : StackReg) (v : Word) : (s.setStackReg q v).ramDraw = s.ramDraw := by cases q <;> rfl
@[simp] theorem setStackReg_schedule (q : StackReg) (v : Word) : (s.setStackReg q v).schedule = s.schedule := by cases q <;> rfl

/-! The views of the register file under the updates -/

@[simp] theorem bc_spend (n : Int) : (s.spend n).bc = s.bc := rfl
@[simp] theorem de_spend (n : Int) : (s.spend n).de = s.de := rfl
@[simp] theorem hl_spend (n : Int) : (s.spend n).hl = s.hl := rfl
@[simp] theorem reg8_spend (n : Int) (r : Reg8) : (s.spend n).reg8 r = s.reg8 r := by cases r <;> rfl
@[simp] theorem bc_setFlags (z n h cy : Bool) : (s.setFlags z n h cy).bc = s.bc := rfl
@[simp] theorem de_setFlags (z n h cy : Bool) : (s.setFlags z n h cy).de = s.de := rfl
@[simp] theorem hl_setFlags (z n h cy : Bool) : (s.setFlags z n h cy).hl = s.hl := rfl
@[simp] theorem reg8_setFlags (z n h cy : Bool) (r : Reg8) : (s.setFlags z n h cy).reg8 r = s.reg8 r := by cases r <;> rfl
@[simp] theorem bc_popped : (popped s).bc = s.bc := rfl
@[simp] theorem de_popped : (popped s).de = s.de := rfl
@[simp] theorem hl_popped : (popped s).hl = s.hl := rfl
@[simp] theorem reg8_popped (r : Reg8) : (popped s).reg8 r = s.reg8 r := by cases r <;> rfl
@[simp] theorem bc_setOnboard (n : Nat) (v : Byte) : (s.setOnboard n v).bc = s.bc := rfl
@[simp] theorem de_setOnboard (n : Nat) (v : Byte) : (s.setOnboard n v).de = s.de := rfl
@[simp] theorem hl_setOnboard (n : Nat) (v : Byte) : (s.setOnboard n v).hl = s.hl := rfl
@[simp] theorem reg8_setOnboard (n : Nat) (v : Byte) (r : Reg8) : (s.setOnboard n v).reg8 r = s.reg8 r := by cases r <;> rfl
@[simp] theorem bc_setCartRamByte (n : Nat) (v : Byte) : (s.setCartRamByte n v).bc = s.bc := rfl
@[simp] theorem de_setCartRamByte (n : Nat) (v : Byte) : (s.setCartRamByte n v).de = s.de := rfl
@[simp] theorem hl_setCartRamByte (n : Nat) (v : Byte) : (s.setCartRamByte n v).hl = s.hl := rfl
@[simp] theorem reg8_setCartRamByte (n : Nat) (v : Byte) (r : Reg8) : (s.setCartRamByte n v).reg8 r = s.reg8 r := by cases r <;> rfl
@[simp] theorem bc_raise (m : Byte) : (s.raise m).bc = s.bc := rfl
@[simp] theorem de_raise (m : Byte) : (s.raise m).de = s.de := rfl
@[simp] theorem hl_raise (m : Byte) : (s.raise m).hl = s.hl := rfl
@[simp] theorem reg8_raise (m : Byte) (r : Reg8) : (s.raise m).reg8 r = s.reg8 r := by cases r <;> rfl

end Sys2Proof.Machine
end

