-- ==== Sys2Proof/Laws/Timer.lean ====
section
/-! SUPPORT. The timer: what advancing it and writing its registers can change, and that the tick counts stay above 0. -/

namespace Sys2Proof.Machine

theorem timerPeriod_pos (tac : BitVec 3) : 0 < timerPeriod tac := by revert tac; decide

/-- The loop ends above 0. -/
theorem periodsElapsed_pos (left : Int) (n : Nat) {period : Nat} (hp : 0 < period) :
    0 < left - n + period * periodsElapsed left n period := by
  unfold periodsElapsed
  split
  · push_cast
    omega
  · have hp' : (0 : Int) < period := by exact_mod_cast hp
    have h := Int.ediv_mul_add_emod (n - left) period
    have hm := Int.emod_lt_of_pos (n - left) hp'
    have hq : 0 ≤ (n - left) / (period : Int) := Int.ediv_nonneg (by omega) hp'.le
    have ht : (((n - left) / (period : Int)).toNat : Int) = (n - left) / (period : Int) := Int.toNat_of_nonneg hq
    push_cast
    rw [ht, mul_add, mul_one, mul_comm]
    omega

/-- While the count stays above 0 the loop does not run. -/
theorem periodsElapsed_zero {left : Int} {n : Nat} (period : Nat) (h : left - n > 0) :
    periodsElapsed left n period = 0 := if_pos h

/-- Otherwise it runs once and goes on from the count after that. -/
theorem periodsElapsed_succ {left : Int} {n : Nat} {period : Nat} (hp : 0 < period) (h : left - n ≤ 0) :
    periodsElapsed left n period = periodsElapsed (left - n + period) 0 period + 1 := by
  have hp' : (0 : Int) < period := by exact_mod_cast hp
  unfold periodsElapsed
  rw [if_neg (by omega)]
  split
  · rename_i h'
    have : (n - left) / (period : Int) = 0 := Int.ediv_eq_zero_of_lt (by omega) (by push_cast at h'; omega)
    simp [this]
  · rename_i h'
    push_cast at h'
    have e : ((n : Int) - left) = (((0 : Nat) : Int) - (left - n + period)) + period * 1 := by push_cast; ring
    have hq : 0 ≤ (((0 : Nat) : Int) - (left - n + period)) / (period : Int) := Int.ediv_nonneg (by omega) hp'.le
    rw [e, Int.add_mul_ediv_left _ _ hp'.ne']
    omega

theorem timaIncrement_frame (s : State) :
    timaIncrement s = { s with tima := (timaIncrement s).tima, iflag := (timaIncrement s).iflag } := by
  unfold timaIncrement
  split <;> rfl

theorem timaIncrements_frame (k : Nat) (s : State) :
    timaIncrements k s = { s with tima := (timaIncrements k s).tima, iflag := (timaIncrements k s).iflag } := by
  induction k generalizing s with
  | zero => rfl
  | succ k ih =>
    rw [timaIncrements, ih (timaIncrement s), timaIncrement_frame s]

/-- Advancing the timer changes only its own registers and IF. -/
theorem advanceTimer_frame (n : Nat) (s : State) :
    advanceTimer n s = { s with
      div := (advanceTimer n s).div, divTicks := (advanceTimer n s).divTicks
      tima := (advanceTimer n s).tima, timaTicks := (advanceTimer n s).timaTicks
      iflag := (advanceTimer n s).iflag } := by
  unfold advanceTimer advanceTima
  split
  · rw [timaIncrements_frame]
    rfl
  · rfl

/-- A timer increment sets requests and clears none. -/
theorem timaIncrement_iflag (s : State) :
    (timaIncrement s).iflag = s.iflag ∨ (timaIncrement s).iflag = s.iflag ||| 0b00100 := by
  unfold timaIncrement
  split
  · exact .inr rfl
  · exact .inl rfl

theorem timaIncrements_iflag (k : Nat) (s : State) (i : Nat) (h : s.iflag.getLsbD i = true) :
    (timaIncrements k s).iflag.getLsbD i = true := by
  induction k generalizing s with
  | zero => exact h
  | succ k ih =>
    refine ih (timaIncrement s) ?_
    rcases timaIncrement_iflag s with e | e <;> simp [e, h]

theorem advanceTimer_iflag (n : Nat) (s : State) (i : Nat) (h : s.iflag.getLsbD i = true) :
    (advanceTimer n s).iflag.getLsbD i = true := by
  unfold advanceTimer advanceTima
  split
  · exact timaIncrements_iflag _ _ _ h
  · exact h

/-- Both tick counts are above 0 after an advance, the counter's if it was or if the counter is enabled. -/
theorem advanceTimer_pos (n : Nat) (s : State) (h : 0 < s.timaTicks) :
    0 < (advanceTimer n s).divTicks ∧ 0 < (advanceTimer n s).timaTicks := by
  unfold advanceTimer advanceTima
  split
  · rw [timaIncrements_frame]
    exact ⟨periodsElapsed_pos _ _ (by decide), periodsElapsed_pos _ _ (timerPeriod_pos _)⟩
  · exact ⟨periodsElapsed_pos _ _ (by decide), h⟩

/-- A write to a timer register changes only the timer's own registers. -/
theorem timerWrite_frame (s : State) (a : Word) (v : Byte) :
    timerWrite s a v = { s with
      div := (timerWrite s a v).div, tima := (timerWrite s a v).tima, tma := (timerWrite s a v).tma
      tac := (timerWrite s a v).tac, timaTicks := (timerWrite s a v).timaTicks } := by
  unfold timerWrite
  (repeat' split) <;> rfl

theorem timerWrite_pos (s : State) (a : Word) (v : Byte) (h : 0 < s.timaTicks) : 0 < (timerWrite s a v).timaTicks := by
  unfold timerWrite
  have hp := timerPeriod_pos (v.extractLsb' 0 3)
  (repeat' split) <;> first | exact h | (show (0 : Int) < (timerPeriod _ : Nat); omega)

end Sys2Proof.Machine
end

