-- ==== Sys2Proof/Laws/Bus.lean ====
section
/-! SUPPORT. The bus: a write reaches only what the bus owns, a read and a write do not look at the CPU's registers, and
what a read answers after a write. -/

namespace Sys2Proof.Machine

/-! ## What a write can change -/

theorem cartCommand_eq (s : State) (x : Word) (v : Byte) :
    s.cartCommand x v = { s with
      ramOn := (s.cartCommand x v).ramOn, bankLo := (s.cartCommand x v).bankLo
      bankHi := (s.cartCommand x v).bankHi, bankMode := (s.cartCommand x v).bankMode
      cartLog := (s.cartCommand x v).cartLog } := by
  unfold State.cartCommand
  (repeat' split) <;> rfl

theorem cartRamWrite_eq (s : State) (x : Word) (v : Byte) :
    s.cartRamWrite x v = { s with
      cartRam := (s.cartRamWrite x v).cartRam, cartLog := (s.cartRamWrite x v).cartLog } := by
  unfold State.cartRamWrite
  (repeat' split) <;> rfl


theorem setOnboard_busEq (s : State) (n : Nat) (v : Byte) :
    s.setOnboard n v = { s with
      mem := (s.setOnboard n v).mem, cartRam := (s.setOnboard n v).cartRam, ramOn := (s.setOnboard n
      v).ramOn, bankLo := (s.setOnboard n v).bankLo, bankHi := (s.setOnboard n v).bankHi, bankMode :=
      (s.setOnboard n v).bankMode, cartLog := (s.setOnboard n v).cartLog, div := (s.setOnboard n v).div
      tima := (s.setOnboard n v).tima, tma := (s.setOnboard n v).tma, tac := (s.setOnboard n v).tac
      timaTicks := (s.setOnboard n v).timaTicks, iflag := (s.setOnboard n v).iflag, ie := (s.setOnboard n
      v).ie } := rfl

theorem busEq_of_bank {s t : State} (h : t = { s with
      ramOn := t.ramOn, bankLo := t.bankLo, bankHi := t.bankHi, bankMode := t.bankMode, cartLog :=
      t.cartLog }) :
    t = { s with
      mem := t.mem, cartRam := t.cartRam, ramOn := t.ramOn, bankLo := t.bankLo, bankHi := t.bankHi
      bankMode := t.bankMode, cartLog := t.cartLog, div := t.div, tima := t.tima, tma := t.tma, tac :=
      t.tac, timaTicks := t.timaTicks, iflag := t.iflag, ie := t.ie } := by rw [h]

theorem busEq_of_cart {s t : State} (h : t = { s with
      cartRam := t.cartRam, cartLog := t.cartLog }) :
    t = { s with
      mem := t.mem, cartRam := t.cartRam, ramOn := t.ramOn, bankLo := t.bankLo, bankHi := t.bankHi
      bankMode := t.bankMode, cartLog := t.cartLog, div := t.div, tima := t.tima, tma := t.tma, tac :=
      t.tac, timaTicks := t.timaTicks, iflag := t.iflag, ie := t.ie } := by rw [h]

theorem busEq_of_timer {s t : State} (h : t = { s with
      div := t.div, tima := t.tima, tma := t.tma, tac := t.tac, timaTicks := t.timaTicks }) :
    t = { s with
      mem := t.mem, cartRam := t.cartRam, ramOn := t.ramOn, bankLo := t.bankLo, bankHi := t.bankHi
      bankMode := t.bankMode, cartLog := t.cartLog, div := t.div, tima := t.tima, tma := t.tma, tac :=
      t.tac, timaTicks := t.timaTicks, iflag := t.iflag, ie := t.ie } := by rw [h]

/-- What a bus write is, by the owner of the address. -/
theorem memWrite_cases (s : State) (x : Word) (v : Byte) :
    memWrite s x v = s ∨ (∃ n w, memWrite s x v = s.setOnboard n w) ∨
    memWrite s x v = s.cartCommand x v ∨ memWrite s x v = s.cartRamWrite x v ∨
    memWrite s x v = timerWrite s x v ∨ (∃ i, memWrite s x v = { s with iflag := i }) ∨
    ∃ e, memWrite s x v = { s with ie := e } := by
  unfold memWrite
  have hp : s.periphWrite x v = s ∨ ∃ n w, s.periphWrite x v = s.setOnboard n w := by
    unfold State.periphWrite
    dsimp only
    split
    · exact .inr ⟨_, _, rfl⟩
    · exact .inl rfl
  cases ownerOf x
  case serial | apu | ppu => exact hp.imp id .inl
  case romFixed | romBanked => exact .inr (.inr (.inl rfl))
  case cartRam => exact .inr (.inr (.inr (.inl rfl)))
  case timer => exact .inr (.inr (.inr (.inr (.inl rfl))))
  case intFlag => exact .inr (.inr (.inr (.inr (.inr (.inl ⟨_, rfl⟩)))))
  case intEnable => exact .inr (.inr (.inr (.inr (.inr (.inr ⟨_, rfl⟩)))))
  case nobody => exact .inl rfl
  all_goals exact .inr (.inl ⟨_, _, rfl⟩)

/-- One bus write changes at most these fields (R61, R70). -/
theorem memWrite_eq (s : State) (x : Word) (v : Byte) :
    memWrite s x v = { s with
      mem := (memWrite s x v).mem, cartRam := (memWrite s x v).cartRam, ramOn := (memWrite s x v).ramOn
      bankLo := (memWrite s x v).bankLo, bankHi := (memWrite s x v).bankHi, bankMode := (memWrite s x
      v).bankMode, cartLog := (memWrite s x v).cartLog, div := (memWrite s x v).div, tima := (memWrite s x
      v).tima, tma := (memWrite s x v).tma, tac := (memWrite s x v).tac, timaTicks := (memWrite s x
      v).timaTicks, iflag := (memWrite s x v).iflag, ie := (memWrite s x v).ie } := by
  rcases memWrite_cases s x v with h | ⟨n, w, h⟩ | h | h | h | ⟨i, h⟩ | ⟨e, h⟩ <;> rw [h]
  · exact setOnboard_busEq s n w
  · exact busEq_of_bank (cartCommand_eq s x v)
  · exact busEq_of_cart (cartRamWrite_eq s x v)
  · exact busEq_of_timer (timerWrite_frame s x v)

variable (s : State) (x : Word) (v : Byte)

@[simp] theorem memWrite_a : (memWrite s x v).a = s.a := (congrArg State.a (memWrite_eq s x v) :)
@[simp] theorem memWrite_f : (memWrite s x v).f = s.f := (congrArg State.f (memWrite_eq s x v) :)
@[simp] theorem memWrite_b : (memWrite s x v).b = s.b := (congrArg State.b (memWrite_eq s x v) :)
@[simp] theorem memWrite_c : (memWrite s x v).c = s.c := (congrArg State.c (memWrite_eq s x v) :)
@[simp] theorem memWrite_d : (memWrite s x v).d = s.d := (congrArg State.d (memWrite_eq s x v) :)
@[simp] theorem memWrite_e : (memWrite s x v).e = s.e := (congrArg State.e (memWrite_eq s x v) :)
@[simp] theorem memWrite_h : (memWrite s x v).h = s.h := (congrArg State.h (memWrite_eq s x v) :)
@[simp] theorem memWrite_l : (memWrite s x v).l = s.l := (congrArg State.l (memWrite_eq s x v) :)
@[simp] theorem memWrite_sp : (memWrite s x v).sp = s.sp := (congrArg State.sp (memWrite_eq s x v) :)
@[simp] theorem memWrite_pc : (memWrite s x v).pc = s.pc := (congrArg State.pc (memWrite_eq s x v) :)
@[simp] theorem memWrite_ime : (memWrite s x v).ime = s.ime := (congrArg State.ime (memWrite_eq s x v) :)
@[simp] theorem memWrite_halted : (memWrite s x v).halted = s.halted := (congrArg State.halted (memWrite_eq s x v) :)
@[simp] theorem memWrite_eiInhibit : (memWrite s x v).eiInhibit = s.eiInhibit := (congrArg State.eiInhibit (memWrite_eq s x v) :)
@[simp] theorem memWrite_haltBug : (memWrite s x v).haltBug = s.haltBug := (congrArg State.haltBug (memWrite_eq s x v) :)
@[simp] theorem memWrite_budget : (memWrite s x v).budget = s.budget := (congrArg State.budget (memWrite_eq s x v) :)
@[simp] theorem memWrite_fault : (memWrite s x v).fault = s.fault := (congrArg State.fault (memWrite_eq s x v) :)
@[simp] theorem memWrite_divTicks : (memWrite s x v).divTicks = s.divTicks := (congrArg State.divTicks (memWrite_eq s x v) :)
@[simp] theorem memWrite_joyDirs : (memWrite s x v).joyDirs = s.joyDirs := (congrArg State.joyDirs (memWrite_eq s x v) :)
@[simp] theorem memWrite_joyActions : (memWrite s x v).joyActions = s.joyActions := (congrArg State.joyActions (memWrite_eq s x v) :)
@[simp] theorem memWrite_rom : (memWrite s x v).rom = s.rom := (congrArg State.rom (memWrite_eq s x v) :)
@[simp] theorem memWrite_cart : (memWrite s x v).cart = s.cart := (congrArg State.cart (memWrite_eq s x v) :)
@[simp] theorem memWrite_params : (memWrite s x v).params = s.params := (congrArg State.params (memWrite_eq s x v) :)
@[simp] theorem memWrite_joypadWakeOnly : (memWrite s x v).joypadWakeOnly = s.joypadWakeOnly := (congrArg State.joypadWakeOnly (memWrite_eq s x v) :)
@[simp] theorem memWrite_pc0 : (memWrite s x v).pc0 = s.pc0 := (congrArg State.pc0 (memWrite_eq s x v) :)
@[simp] theorem memWrite_ramDraw : (memWrite s x v).ramDraw = s.ramDraw := (congrArg State.ramDraw (memWrite_eq s x v) :)
@[simp] theorem memWrite_schedule : (memWrite s x v).schedule = s.schedule := (congrArg State.schedule (memWrite_eq s x v) :)
@[simp] theorem memWrite_bc : (memWrite s x v).bc = s.bc := by simp [State.bc]
@[simp] theorem memWrite_de : (memWrite s x v).de = s.de := by simp [State.de]
@[simp] theorem memWrite_hl : (memWrite s x v).hl = s.hl := by simp [State.hl]
@[simp] theorem memWrite_reg8 (r : Reg8) : (memWrite s x v).reg8 r = s.reg8 r := by cases r <;> simp

/-! ## What the cartridge's window depends on -/

theorem ramWindow_congr {s t : State} (hc : t.cart = s.cart) (ho : t.ramOn = s.ramOn) (hh : t.bankHi = s.bankHi)
    (hm : t.bankMode = s.bankMode) (hl : t.cartLog = s.cartLog) : t.ramWindow = s.ramWindow := by
  unfold State.ramWindow
  rw [hc, ho, hh, hm, hl]

theorem hasNibbleRam_congr {s t : State} (hc : t.cart = s.cart) : t.hasNibbleRam = s.hasNibbleRam := by
  unfold State.hasNibbleRam
  rw [hc]

theorem cartRamOffset_congr {s t : State} (bank : Nat) (a : Word) (hc : t.cart = s.cart) :
    t.cartRamOffset bank a = s.cartRamOffset bank a := by
  unfold State.cartRamOffset
  rw [hasNibbleRam_congr hc]

theorem cartRamRead_congr {s t : State} (a : Word) (hc : t.cart = s.cart) (ho : t.ramOn = s.ramOn)
    (hh : t.bankHi = s.bankHi) (hm : t.bankMode = s.bankMode) (hl : t.cartLog = s.cartLog)
    (hd : t.ramDraw = s.ramDraw) (hr : t.cartRam = s.cartRam) : t.cartRamRead a = s.cartRamRead a := by
  unfold State.cartRamRead State.cartRamByte
  simp only [ramWindow_congr hc ho hh hm hl, cartRamOffset_congr _ a hc, hasNibbleRam_congr hc, hl, hd, hr]

@[simp] theorem setCartRamByte_ramWindow (s : State) (n : Nat) (v : Byte) : (s.setCartRamByte n v).ramWindow = s.ramWindow :=
  ramWindow_congr rfl rfl rfl rfl rfl
@[simp] theorem setCartRamByte_hasNibbleRam (s : State) (n : Nat) (v : Byte) :
    (s.setCartRamByte n v).hasNibbleRam = s.hasNibbleRam := hasNibbleRam_congr rfl
@[simp] theorem setCartRamByte_cartRamOffset (s : State) (n : Nat) (v : Byte) (bank : Nat) (a : Word) :
    (s.setCartRamByte n v).cartRamOffset bank a = s.cartRamOffset bank a := cartRamOffset_congr bank a rfl

/-- Only another controller has registers in the window, or a nibble RAM. -/
theorem ramWindow_ne_register {s : State} (h : s.cart.kind ≠ .other) : s.ramWindow ≠ .register := by
  unfold State.ramWindow
  cases hk : s.cart.kind <;> first | exact absurd hk h | skip
  all_goals
    dsimp only
    (repeat' split) <;> nofun

theorem hasNibbleRam_of_ne {s : State} (h : s.cart.kind ≠ .other) : s.hasNibbleRam = false := by
  unfold State.hasNibbleRam
  cases hk : s.cart.kind <;> first | exact absurd hk h | rfl

/-! ## Reads and writes do not look at the CPU -/

/-- The CPU's own fields: a record with those of `c` and the rest of `s`. -/
def withCpuOf (s c : State) : State :=
  { s with
      a := c.a, f := c.f, b := c.b, c := c.c, d := c.d, e := c.e, h := c.h, l := c.l, sp := c.sp, pc :=
      c.pc, ime := c.ime, halted := c.halted, eiInhibit := c.eiInhibit, haltBug := c.haltBug, budget :=
      c.budget, fault := c.fault, joypadWakeOnly := c.joypadWakeOnly, pc0 := c.pc0, schedule := c.schedule }

theorem onboard_withCpuOf (s c : State) (n : Nat) : (withCpuOf s c).onboard n = s.onboard n := rfl

theorem cartRomRead_withCpuOf (s c : State) (a : Word) : (withCpuOf s c).cartRomRead a = s.cartRomRead a := by
  have hr (n : Nat) : (withCpuOf s c).romByte n = s.romByte n := rfl
  have hl : (withCpuOf s c).lowBank = s.lowBank := rfl
  have hh : (withCpuOf s c).highBank = s.highBank := rfl
  unfold State.cartRomRead
  rw [hr, hr, hl, hh]

theorem cartRamRead_withCpuOf (s c : State) (a : Word) : (withCpuOf s c).cartRamRead a = s.cartRamRead a :=
  cartRamRead_congr a rfl rfl rfl rfl rfl rfl rfl

theorem joypadRead_withCpuOf (s c : State) : (withCpuOf s c).joypadRead = s.joypadRead := by
  unfold State.joypadRead
  rw [onboard_withCpuOf]
  rfl

theorem periphRead_withCpuOf (s c : State) (a : Word) : (withCpuOf s c).periphRead a = s.periphRead a := by
  unfold State.periphRead
  rw [onboard_withCpuOf]

theorem timerRead_withCpuOf (s c : State) (a : Word) : timerRead (withCpuOf s c) a = timerRead s a := by
  unfold timerRead
  (repeat' split) <;> rfl

theorem memRead_withCpuOf (s c : State) (a : Word) : memRead (withCpuOf s c) a = memRead s a := by
  unfold memRead
  rw [cartRomRead_withCpuOf, onboard_withCpuOf, onboard_withCpuOf, cartRamRead_withCpuOf, joypadRead_withCpuOf,
    periphRead_withCpuOf, timerRead_withCpuOf]
  cases ownerOf a <;> rfl

/-- A state that differs from `s` in the CPU's own fields reads every byte as `s` does. -/
theorem sameReads_of {s t : State} (h : t = withCpuOf s t) : SameReads s t :=
  fun a => (congrArg (memRead · a) h).trans (memRead_withCpuOf s t a)

theorem fetchRead_withCpuOf (s c : State) (a : Word) : fetchRead (withCpuOf s c) a = fetchRead s a := by
  unfold fetchRead
  rw [memRead_withCpuOf]
  simp only [State.romByte, withCpuOf]

theorem memWrite_withCpuOf (s c : State) (a : Word) (v : Byte) :
    memWrite (withCpuOf s c) a v = withCpuOf (memWrite s a v) c := by
  have hc : (withCpuOf s c).cartCommand a v = withCpuOf (s.cartCommand a v) c := by
    unfold State.cartCommand
    cases h : s.cart.kind <;> simp only [withCpuOf, h] <;> (repeat' split) <;> rfl
  have hr : (withCpuOf s c).cartRamWrite a v = withCpuOf (s.cartRamWrite a v) c := by
    unfold State.cartRamWrite
    rw [show (withCpuOf s c).ramWindow = s.ramWindow from ramWindow_congr rfl rfl rfl rfl rfl]
    cases s.ramWindow <;> rfl
  have ht : timerWrite (withCpuOf s c) a v = withCpuOf (timerWrite s a v) c := by
    unfold timerWrite
    (repeat' split) <;> rfl
  unfold memWrite
  rw [hc, hr, ht]
  have hp : (withCpuOf s c).periphWrite a v = withCpuOf (s.periphWrite a v) c := by
    unfold State.periphWrite
    dsimp only
    split <;> rfl
  rw [hp]
  cases ownerOf a <;> simp only [State.setOnboard, withCpuOf]

@[simp] theorem memRead_spend (n : Int) : memRead (s.spend n) x = memRead s x := sameReads_of rfl x
@[simp] theorem memRead_setFlags (z n h cy : Bool) : memRead (s.setFlags z n h cy) x = memRead s x := sameReads_of rfl x
@[simp] theorem memRead_setReg8 (r : Reg8) (w : Byte) : memRead (s.setReg8 r w) x = memRead s x := by cases r <;> exact sameReads_of rfl x
@[simp] theorem memRead_setHl (w : Word) : memRead (s.setHl w) x = memRead s x := sameReads_of rfl x
@[simp] theorem memRead_setReg16 (p : Reg16) (w : Word) : memRead (s.setReg16 p w) x = memRead s x := by cases p <;> exact sameReads_of rfl x
@[simp] theorem memRead_setStackReg (q : StackReg) (w : Word) : memRead (s.setStackReg q w) x = memRead s x := by cases q <;> exact sameReads_of rfl x
@[simp] theorem memRead_popped : memRead (popped s) x = memRead s x := sameReads_of rfl x

/-! ## A read after a write -/

theorem toNat_of_joypad {a : Word} (h : ownerOf a = .joypad) : a.toNat = 0xFF00 := by
  simp only [ownerOf, ite_eq_iff, reduceCtorEq, and_false, and_true, false_or, or_false] at h
  omega

theorem homeOf_of_ne {a : Word} (h : ownerOf a ≠ .echo) : homeOf a = a.toNat := if_neg h

/-- Stored bytes outside the cartridge are apart: a read elsewhere does not see a store. -/
theorem memRead_setOnboard_other (s : State) (n : Nat) (v : Byte) (a : Word) (h : homeOf a ≠ n) :
    memRead (s.setOnboard n v) a = memRead s a := by
  have hn (k : Nat) (hk : k ≠ n) : (s.setOnboard n v).onboard k = s.onboard k := by
    simp only [State.onboard, setOnboard_mem, setOnboard_ramDraw, Memory.get?_store_other _ hk]
  have hc : (s.setOnboard n v).cartRomRead a = s.cartRomRead a := by
    have hr (n' : Nat) : (s.setOnboard n v).romByte n' = s.romByte n' := rfl
    have hl : (s.setOnboard n v).lowBank = s.lowBank := rfl
    have hh : (s.setOnboard n v).highBank = s.highBank := rfl
    unfold State.cartRomRead
    rw [hr, hr, hl, hh]
  have hr : (s.setOnboard n v).cartRamRead a = s.cartRamRead a := cartRamRead_congr a rfl rfl rfl rfl rfl rfl rfl
  have ht : timerRead (s.setOnboard n v) a = timerRead s a := by
    unfold timerRead
    (repeat' split) <;> rfl
  unfold memRead State.periphRead State.joypadRead
  rw [hc, hr, ht]
  cases e : ownerOf a
  case echo =>
    have := hn (a.toNat - 0x2000) (by simpa [homeOf, e] using h)
    simpa using this
  case joypad =>
    have := hn 0xFF00 (by rwa [homeOf_of_ne (by simp [e]), toNat_of_joypad e] at h)
    simp only [this, setOnboard_joyActions, setOnboard_joyDirs]
  case videoRam | workRam | oam | highRam | serial | apu | ppu =>
    simp only [hn _ (homeOf_of_ne (a := a) (by simp [e]) ▸ h)]
  all_goals simp only [setOnboard_params, setOnboard_iflag, setOnboard_ie]

/-- In RAM outside the cartridge a store is read back. -/
theorem memRead_setOnboard_self (s : State) (v : Byte) (a : Word) (h : InRam a) :
    memRead (s.setOnboard (homeOf a) v) a = v := by
  rcases h with h | h | h | h | h <;> simp [memRead, homeOf, h, State.onboard]

theorem memWrite_ram (s : State) (a : Word) (v : Byte) (h : InRam a) : memWrite s a v = s.setOnboard (homeOf a) v := by
  rcases h with h | h | h | h | h <;> simp [memWrite, homeOf, h]

/-! ## A write leaves every other place alone -/

theorem timerRead_congr {s t : State} (a : Word) (hd : t.div = s.div) (hi : t.tima = s.tima) (hm : t.tma = s.tma)
    (hc : t.tac = s.tac) : timerRead t a = timerRead s a := by
  unfold timerRead
  rw [hd, hi, hm, hc]

/-- Two addresses of the cartridge RAM window reach two bytes of a bank. -/
theorem cartRamOffset_inj {s : State} {a b : Word} (bank : Nat) (hk : s.cart.kind ≠ .other) (ha : ownerOf a = .cartRam)
    (hb : ownerOf b = .cartRam) (h : a.toNat ≠ b.toNat) : s.cartRamOffset bank a ≠ s.cartRamOffset bank b := by
  have h1 : 0xA000 ≤ a.toNat := by
    simp only [ownerOf, ite_eq_iff, reduceCtorEq, and_false, and_true, false_or, or_false] at ha
    omega
  have h2 : 0xA000 ≤ b.toNat := by
    simp only [ownerOf, ite_eq_iff, reduceCtorEq, and_false, and_true, false_or, or_false] at hb
    omega
  unfold State.cartRamOffset
  rw [hasNibbleRam_of_ne hk]
  simp only [Bool.false_eq_true, if_false]
  omega

/-- What a read answers depends on these fields, by the owner of the address. -/
theorem memRead_congr {s t : State} (a : Word) (hrom : t.rom = s.rom) (hcart : t.cart = s.cart)
    (hdraw : t.ramDraw = s.ramDraw) (hpar : t.params = s.params) (hjd : t.joyDirs = s.joyDirs)
    (hja : t.joyActions = s.joyActions) (hmem : t.mem = s.mem)
    (hbank : InCartridge a → t.bankLo = s.bankLo ∧ t.bankHi = s.bankHi ∧ t.bankMode = s.bankMode ∧ t.cartLog = s.cartLog)
    (hram : ownerOf a = .cartRam → t.cartRamRead a = s.cartRamRead a)
    (htim : ownerOf a = .timer → timerRead t a = timerRead s a)
    (hif : ownerOf a = .intFlag → t.iflag = s.iflag) (hie : ownerOf a = .intEnable → t.ie = s.ie) :
    memRead t a = memRead s a := by
  have hb (n : Nat) : t.onboard n = s.onboard n := by simp only [State.onboard, hmem, hdraw]
  have hj : t.joypadRead = s.joypadRead := by simp only [State.joypadRead, hb, hjd, hja]
  have hp : t.periphRead a = s.periphRead a := by simp only [State.periphRead, hb]
  unfold memRead
  cases e : ownerOf a
  case romFixed | romBanked =>
    obtain ⟨b1, b2, b3, b4⟩ := hbank (by simp [InCartridge, e])
    simp only [State.cartRomRead, State.romByte, State.lowBank, State.highBank, State.bankNumber, hrom, hcart, b1, b2,
      b3, b4]
  case cartRam => exact hram e
  case timer => exact htim e
  all_goals simp_all

theorem timer_address {a : Word} (ha : ownerOf a = .timer) : a = 0xFF04 ∨ a = 0xFF05 ∨ a = 0xFF06 ∨ a = 0xFF07 := by
  simp only [ownerOf, ite_eq_iff, reduceCtorEq, and_false, and_true, false_or, or_false] at ha
  bv_omega

/-- One of the timer's four registers does not show a write to another. -/
theorem timerRead_timerWrite_other (s : State) {a x : Word} (v : Byte) (ha : ownerOf a = .timer) (hx : ownerOf x = .timer)
    (h : a ≠ x) : timerRead (timerWrite s x v) a = timerRead s a := by
  rcases timer_address ha with rfl | rfl | rfl | rfl <;> rcases timer_address hx with rfl | rfl | rfl | rfl <;>
    first | exact absurd rfl h | simp [timerRead, timerWrite]

/-- Cartridge RAM: a read elsewhere in the window does not see a store. -/
theorem cartRamRead_cartRamWrite_other (s : State) {a x : Word} (v : Byte) (ha : ownerOf a = .cartRam)
    (hx : ownerOf x = .cartRam) (h : a.toNat ≠ x.toNat) (hk : s.cart.kind ≠ .other) :
    (s.cartRamWrite x v).cartRamRead a = s.cartRamRead a := by
  unfold State.cartRamWrite
  cases e : s.ramWindow with
  | closed => rfl
  | register => exact absurd e (ramWindow_ne_register hk)
  | ram bank =>
    have hb : (s.setCartRamByte (s.cartRamOffset bank x) v).cartRamByte (s.cartRamOffset bank a) =
        s.cartRamByte (s.cartRamOffset bank a) := by
      simp only [State.cartRamByte, State.setCartRamByte, Memory.get?_store_other _ (cartRamOffset_inj bank hk ha hx h)]
    simp only [hasNibbleRam_of_ne hk, Bool.false_eq_true, if_false]
    unfold State.cartRamRead
    simp only [setCartRamByte_ramWindow, e, setCartRamByte_cartRamOffset, hb, setCartRamByte_hasNibbleRam]

/-- A write leaves every other place alone: every byte outside the cartridge, and, if the write is no command to a bank
controller, every byte. -/
theorem memRead_memWrite_other (s : State) {a x : Word} (v : Byte) (hne : homeOf a ≠ homeOf x)
    (h : ¬ InCartridge a ∨ PlainStore s x) : memRead (memWrite s x v) a = memRead s a := by
  have hat (ha : ownerOf a ≠ .echo) (hx : ownerOf x ≠ .echo) : a.toNat ≠ x.toNat := by
    rwa [homeOf_of_ne ha, homeOf_of_ne hx] at hne
  have bank : InCartridge a → s.bankLo = s.bankLo ∧ s.bankHi = s.bankHi ∧ s.bankMode = s.bankMode ∧ s.cartLog = s.cartLog :=
    fun _ => ⟨rfl, rfl, rfl, rfl⟩
  unfold memWrite
  cases e : ownerOf x <;> dsimp only
  case videoRam | workRam | oam | highRam | echo =>
    exact memRead_setOnboard_other _ _ _ _ (by simpa [homeOf, e] using hne)
  case joypad =>
    exact memRead_setOnboard_other _ _ _ _ (by rwa [homeOf_of_ne (a := x) (by simp [e]), toNat_of_joypad e] at hne)
  case serial | apu | ppu =>
    unfold State.periphWrite
    dsimp only
    split
    · exact memRead_setOnboard_other _ _ _ _ (by rwa [homeOf_of_ne (a := x) (by simp [e])] at hne)
    · rfl
  case intEnable =>
    refine memRead_congr a rfl rfl rfl rfl rfl rfl rfl bank (fun _ => cartRamRead_congr a rfl rfl rfl rfl rfl rfl rfl)
      (fun _ => timerRead_congr a rfl rfl rfl rfl) (fun _ => rfl) (fun ha => absurd ?_ (hat (by simp [ha]) (by simp [e])))
    simp only [ownerOf, ite_eq_iff, reduceCtorEq, and_false, and_true, false_or] at ha e
    omega
  case intFlag =>
    refine memRead_congr a rfl rfl rfl rfl rfl rfl rfl bank (fun _ => cartRamRead_congr a rfl rfl rfl rfl rfl rfl rfl)
      (fun _ => timerRead_congr a rfl rfl rfl rfl) (fun ha => absurd ?_ (hat (by simp [ha]) (by simp [e]))) (fun _ => rfl)
    simp only [ownerOf, ite_eq_iff, reduceCtorEq, and_false, and_true, false_or, or_false] at ha e
    omega
  case timer =>
    generalize hq : timerWrite s x v = q
    have q' := timerWrite_frame s x v
    have ht (ha : ownerOf a = .timer) := timerRead_timerWrite_other s v ha e (fun h => hne (h ▸ rfl))
    rw [hq] at q' ht
    rw [q'] at ht ⊢
    exact memRead_congr a rfl rfl rfl rfl rfl rfl rfl bank (fun _ => cartRamRead_congr a rfl rfl rfl rfl rfl rfl rfl)
      ht (fun _ => rfl) (fun _ => rfl)
  case romFixed | romBanked =>
    have hc : ¬ InCartridge a := by
      rcases h with h | h
      · exact h
      · have := h.1
        simp only [ownerOf, ite_eq_iff, reduceCtorEq, and_false, and_true, false_or, or_false] at e
        omega
    rw [cartCommand_eq]
    exact memRead_congr a rfl rfl rfl rfl rfl rfl rfl (fun h => absurd h hc) (fun h => absurd (.inr (.inr h)) hc)
      (fun _ => timerRead_congr a rfl rfl rfl rfl) (fun _ => rfl) (fun _ => rfl)
  case cartRam =>
    by_cases ho : s.cart.kind = .other
    · have hc : ¬ InCartridge a := h.resolve_right fun h => h.2 e ho
      rw [cartRamWrite_eq]
      exact memRead_congr a rfl rfl rfl rfl rfl rfl rfl (fun h => absurd h hc) (fun h => absurd (.inr (.inr h)) hc)
        (fun _ => timerRead_congr a rfl rfl rfl rfl) (fun _ => rfl) (fun _ => rfl)
    · have hl : (s.cartRamWrite x v).cartLog = s.cartLog := by
        unfold State.cartRamWrite
        cases e' : s.ramWindow
        case register => exact absurd e' (ramWindow_ne_register ho)
        all_goals rfl
      have hr (ha : ownerOf a = .cartRam) :=
        cartRamRead_cartRamWrite_other s v ha e (hat (by simp [ha]) (by simp [e])) ho
      have q := cartRamWrite_eq s x v
      rw [hl] at q
      rw [q] at hr ⊢
      exact memRead_congr a rfl rfl rfl rfl rfl rfl rfl bank hr (fun _ => timerRead_congr a rfl rfl rfl rfl)
        (fun _ => rfl) (fun _ => rfl)

end Sys2Proof.Machine
end

