-- ==== Sys2Proof/Laws/Cycle.lean ====
section
/-! SUPPORT. The moves of the other agents and the scheduler's interrupt check: what each can change. -/

namespace Sys2Proof.Machine

/-- The reset content of RAM is drawn anew at each reset (R402). -/
theorem resetContent_ram {n : Nat} (draw : Nat) (h : n < 0xFF00 ∨ 0xFF80 ≤ n) :
    resetContent draw n = Config.resetByte draw n := if_pos h

/-- The power-on value of a peripheral register is the same after every reset (R401). -/
theorem resetContent_register {n : Nat} (draw : Nat) (h : 0xFF00 ≤ n) (h' : n < 0xFF80) :
    resetContent draw n = Config.resetRegister n := if_neg (by omega)

/-- The addresses of the APU's range where R76 lists no register. -/
theorem hasRegister_eq_false (n : Nat) :
    hasRegister n = false ↔ n = 0xFF15 ∨ n = 0xFF1F ∨ 0xFF27 ≤ n ∧ n ≤ 0xFF2F := by
  unfold hasRegister
  simp
  omega

/-- A change of the buttons changes the masks and IF only. -/
theorem latchButtons_eq (dirs actions : BitVec 4) (s : State) :
    latchButtons dirs actions s =
      { s with joyDirs := dirs, joyActions := actions, iflag := (latchButtons dirs actions s).iflag } := by
  unfold latchButtons
  dsimp only
  split <;> rfl

/-- A change of the buttons makes the joypad's request or none. -/
theorem latchButtons_iflag (dirs actions : BitVec 4) (s : State) :
    (latchButtons dirs actions s).iflag = s.iflag ∨ (latchButtons dirs actions s).iflag = s.iflag ||| 0b10000 := by
  unfold latchButtons
  dsimp only
  split
  · exact .inr rfl
  · exact .inl rfl

/-- A peripheral's own change stores one byte of its own or does nothing. -/
theorem deviceChange_cases (addr : Word) (v : Byte) (s : State) :
    deviceChange addr v s = s ∨ deviceChange addr v s = s.setOnboard addr.toNat v ∧
      (ownerOf addr = .videoRam ∨ ownerOf addr = .oam ∨ ownerOf addr = .serial ∨ ownerOf addr = .apu ∨
        ownerOf addr = .ppu) := by
  unfold deviceChange
  cases e : ownerOf addr <;> simp only [reduceCtorEq, or_false, or_true, and_true, and_false, or_self]
  case serial | apu | ppu =>
    split
    · exact .inr rfl
    · exact .inl rfl

/-- Right after EI or RETI the scheduler's check is none (R421, R422). -/
theorem checkOnly_of_eiInhibit {s : State} (h : s.eiInhibit = true) : checkOnly s = s := by
  unfold checkOnly
  split
  · rfl
  · rw [if_pos h]

/-- A call of `emulate` whose budget does not become positive makes that check and runs nothing (R351). -/
theorem cpuEmulate_of_spent (fuel : Nat) {n : Nat} {s : State} (h : s.budget + n ≤ 0) :
    cpuEmulate fuel n s = .next (checkOnly { s with budget := s.budget + n }) := if_neg (not_lt.2 h)

end Sys2Proof.Machine
end

