-- ==== Sys2Proof/Laws/Exec.lean ====
section
/-! SUPPORT. The one case analysis over the 502 constructors: a property of every outcome of `exec` follows from the
property of each shared operation, with every operand. -/

namespace Sys2Proof.Machine

/-- The tick costs of R431. -/
def Ticks (k : Int) : Prop := k = 4 ∨ k = 8 ∨ k = 12 ∨ k = 16 ∨ k = 20 ∨ k = 24

theorem ticks4 : Ticks 4 := .inl rfl
theorem ticks8 : Ticks 8 := .inr (.inl rfl)
theorem ticks12 : Ticks 12 := .inr (.inr (.inl rfl))
theorem ticks16 : Ticks 16 := .inr (.inr (.inr (.inl rfl)))
theorem ticks20 : Ticks 20 := .inr (.inr (.inr (.inr (.inl rfl))))
theorem ticks24 : Ticks 24 := .inr (.inr (.inr (.inr (.inr rfl))))

/-- `P` holds of each shared operation that the meanings are made of, in state `s`. -/
structure ExecForms (s : State) (P : Res → Prop) : Prop where
  load : ∀ r v k, Ticks k → P (loadReg r v k s)
  store : ∀ a v k, Ticks k → P (storeAt a v k s)
  storeHl : ∀ hl, P (storeThenHl hl s)
  loadHl : ∀ hl, P (loadThenHl hl s)
  pair : ∀ p v, P (.next ((s.setReg16 p v).spend 12))
  stepPair : ∀ p v, P (stepPair p v s)
  spHl : P (execLdSpHl s)
  storeSp : ∀ nn, P (storeSp nn s)
  hlSp : ∀ e, P (loadHlSpOffset e s)
  addSp : ∀ e, P (addToSp e s)
  addHl : ∀ v, P (addToHl v s)
  push : ∀ q, P (pushReg q s)
  pop : ∀ q, P (popReg q s)
  alu : ∀ op v k, Ticks k → P (aluA op v k s)
  updReg : ∀ r o k, Ticks k → P (updateReg r o k s)
  updMem : ∀ o k, Ticks k → P (updateMem o k s)
  cpl : P (execCpl s)
  scf : P (execScf s)
  ccf : P (execCcf s)
  rotA : ∀ op, P (rotateA op s)
  rotReg : ∀ op r, P (rotateReg op r s)
  rotMem : ∀ op, P (rotateMem op s)
  bit : ∀ b v k, Ticks k → P (testBit b v k s)
  resReg : ∀ k r, P (resetBitReg k r s)
  resMem : ∀ k, P (resetBitMem k s)
  setReg : ∀ k r, P (setBitReg k r s)
  setMem : ∀ k, P (setBitMem k s)
  jump : ∀ t k, Ticks k → P (jumpTo t k s)
  call : ∀ t k, Ticks k → P (callTo t k s)
  ret : ∀ k, Ticks k → P (returnFrom k s)
  reti : P (execReti s)
  idle : ∀ k, Ticks k → P (.next (s.spend k))
  halt : P (execHalt s)
  stop : P (stopOp s)
  illegal : ∀ op, P (execIllegal op s)
  di : P (execDi s)
  ei : P (execEi s)

variable {s : State} {P : Res → Prop}

theorem cond_of {x y : Res} (c : Bool) (hx : P x) (hy : P y) : P (if c then x else y) := by cases c <;> assumption

theorem cbPage_of_forms (f : ExecForms s P) (op2 : Byte) : P (cbPage op2 s) := by
  unfold cbPage
  dsimp only
  split
  · exact f.rotReg _ _
  · exact f.rotMem _
  · exact f.bit _ _ _ ticks8
  · exact f.bit _ _ _ ticks12
  · exact f.resReg _ _
  · exact f.resMem _
  · exact f.setReg _ _
  · exact f.setMem _

theorem exec_of_forms (f : ExecForms s P) : ∀ i, P (exec i s)
  | .ldBcNn nn => f.pair .bc nn
  | .ldBN n => f.load .b n 8 ticks8
  | .ldIndNnSp nn => f.storeSp nn
  | .ldCN n => f.load .c n 8 ticks8
  | .stop _ => f.stop
  | .ldDeNn nn => f.pair .de nn
  | .ldDN n => f.load .d n 8 ticks8
  | .jrE e => f.jump (s.pc + sext16 e) 12 ticks12
  | .ldEN n => f.load .e n 8 ticks8
  | .jrNzE e => cond_of (s.cond .nz) (f.jump (s.pc + sext16 e) 12 ticks12) (f.idle 8 ticks8)
  | .ldHlNn nn => f.pair .hl nn
  | .ldHN n => f.load .h n 8 ticks8
  | .jrZE e => cond_of (s.cond .z) (f.jump (s.pc + sext16 e) 12 ticks12) (f.idle 8 ticks8)
  | .ldLN n => f.load .l n 8 ticks8
  | .jrNcE e => cond_of (s.cond .nc) (f.jump (s.pc + sext16 e) 12 ticks12) (f.idle 8 ticks8)
  | .ldSpNn nn => f.pair .sp nn
  | .ldIndHlN n => f.store s.hl n 12 ticks12
  | .jrCE e => cond_of (s.cond .c) (f.jump (s.pc + sext16 e) 12 ticks12) (f.idle 8 ticks8)
  | .ldAN n => f.load .a n 8 ticks8
  | .jpNzNn nn => cond_of (s.cond .nz) (f.jump nn 16 ticks16) (f.idle 12 ticks12)
  | .jpNn nn => f.jump nn 16 ticks16
  | .callNzNn nn => cond_of (s.cond .nz) (f.call nn 24 ticks24) (f.idle 12 ticks12)
  | .addAN n => f.alu .add n 8 ticks8
  | .jpZNn nn => cond_of (s.cond .z) (f.jump nn 16 ticks16) (f.idle 12 ticks12)
  | .prefixCb op2 => cbPage_of_forms f op2
  | .callZNn nn => cond_of (s.cond .z) (f.call nn 24 ticks24) (f.idle 12 ticks12)
  | .callNn nn => f.call nn 24 ticks24
  | .adcAN n => f.alu .adc n 8 ticks8
  | .jpNcNn nn => cond_of (s.cond .nc) (f.jump nn 16 ticks16) (f.idle 12 ticks12)
  | .illegal op => f.illegal op
  | .callNcNn nn => cond_of (s.cond .nc) (f.call nn 24 ticks24) (f.idle 12 ticks12)
  | .subN n => f.alu .sub n 8 ticks8
  | .jpCNn nn => cond_of (s.cond .c) (f.jump nn 16 ticks16) (f.idle 12 ticks12)
  | .callCNn nn => cond_of (s.cond .c) (f.call nn 24 ticks24) (f.idle 12 ticks12)
  | .sbcAN n => f.alu .sbc n 8 ticks8
  | .ldhIndNA n => f.store (highPage n) s.a 12 ticks12
  | .andN n => f.alu .and n 8 ticks8
  | .addSpE e => f.addSp e
  | .ldIndNnA nn => f.store nn s.a 16 ticks16
  | .xorN n => f.alu .xor n 8 ticks8
  | .ldhAIndN n => f.load .a (memRead s (highPage n)) 12 ticks12
  | .orN n => f.alu .or n 8 ticks8
  | .ldHlSpE e => f.hlSp e
  | .ldAIndNn nn => f.load .a (memRead s nn) 16 ticks16
  | .cpN n => f.alu .cp n 8 ticks8
  | .nop => f.idle 4 ticks4
  | .ldIndBcA => f.store s.bc s.a 8 ticks8
  | .incBc => f.stepPair .bc (s.reg16 .bc + 1)
  | .incB => f.updReg .b (inc8 (s.reg8 .b) s.cf) 4 ticks4
  | .decB => f.updReg .b (dec8 (s.reg8 .b) s.cf) 4 ticks4
  | .rlca => f.rotA .rlc
  | .addHlBc => f.addHl (s.reg16 .bc)
  | .ldAIndBc => f.load .a (memRead s s.bc) 8 ticks8
  | .decBc => f.stepPair .bc (s.reg16 .bc - 1)
  | .incC => f.updReg .c (inc8 (s.reg8 .c) s.cf) 4 ticks4
  | .decC => f.updReg .c (dec8 (s.reg8 .c) s.cf) 4 ticks4
  | .rrca => f.rotA .rrc
  | .ldIndDeA => f.store s.de s.a 8 ticks8
  | .incDe => f.stepPair .de (s.reg16 .de + 1)
  | .incD => f.updReg .d (inc8 (s.reg8 .d) s.cf) 4 ticks4
  | .decD => f.updReg .d (dec8 (s.reg8 .d) s.cf) 4 ticks4
  | .rla => f.rotA .rl
  | .addHlDe => f.addHl (s.reg16 .de)
  | .ldAIndDe => f.load .a (memRead s s.de) 8 ticks8
  | .decDe => f.stepPair .de (s.reg16 .de - 1)
  | .incE => f.updReg .e (inc8 (s.reg8 .e) s.cf) 4 ticks4
  | .decE => f.updReg .e (dec8 (s.reg8 .e) s.cf) 4 ticks4
  | .rra => f.rotA .rr
  | .ldIndHlIncA => f.storeHl (s.hl + 1)
  | .incHl => f.stepPair .hl (s.reg16 .hl + 1)
  | .incH => f.updReg .h (inc8 (s.reg8 .h) s.cf) 4 ticks4
  | .decH => f.updReg .h (dec8 (s.reg8 .h) s.cf) 4 ticks4
  | .daa => f.updReg .a (daaOut s.a s.nf s.hf s.cf) 4 ticks4
  | .addHlHl => f.addHl (s.reg16 .hl)
  | .ldAIndHlInc => f.loadHl (s.hl + 1)
  | .decHl => f.stepPair .hl (s.reg16 .hl - 1)
  | .incL => f.updReg .l (inc8 (s.reg8 .l) s.cf) 4 ticks4
  | .decL => f.updReg .l (dec8 (s.reg8 .l) s.cf) 4 ticks4
  | .cpl => f.cpl
  | .ldIndHlDecA => f.storeHl (s.hl - 1)
  | .incSp => f.stepPair .sp (s.reg16 .sp + 1)
  | .incIndHl => f.updMem (inc8 (memRead s s.hl) s.cf) 12 ticks12
  | .decIndHl => f.updMem (dec8 (memRead s s.hl) s.cf) 12 ticks12
  | .scf => f.scf
  | .addHlSp => f.addHl (s.reg16 .sp)
  | .ldAIndHlDec => f.loadHl (s.hl - 1)
  | .decSp => f.stepPair .sp (s.reg16 .sp - 1)
  | .incA => f.updReg .a (inc8 (s.reg8 .a) s.cf) 4 ticks4
  | .decA => f.updReg .a (dec8 (s.reg8 .a) s.cf) 4 ticks4
  | .ccf => f.ccf
  | .ldBB => f.load .b (s.reg8 .b) 4 ticks4
  | .ldBC => f.load .b (s.reg8 .c) 4 ticks4
  | .ldBD => f.load .b (s.reg8 .d) 4 ticks4
  | .ldBE => f.load .b (s.reg8 .e) 4 ticks4
  | .ldBH => f.load .b (s.reg8 .h) 4 ticks4
  | .ldBL => f.load .b (s.reg8 .l) 4 ticks4
  | .ldBIndHl => f.load .b (memRead s s.hl) 8 ticks8
  | .ldBA => f.load .b (s.reg8 .a) 4 ticks4
  | .ldCB => f.load .c (s.reg8 .b) 4 ticks4
  | .ldCC => f.load .c (s.reg8 .c) 4 ticks4
  | .ldCD => f.load .c (s.reg8 .d) 4 ticks4
  | .ldCE => f.load .c (s.reg8 .e) 4 ticks4
  | .ldCH => f.load .c (s.reg8 .h) 4 ticks4
  | .ldCL => f.load .c (s.reg8 .l) 4 ticks4
  | .ldCIndHl => f.load .c (memRead s s.hl) 8 ticks8
  | .ldCA => f.load .c (s.reg8 .a) 4 ticks4
  | .ldDB => f.load .d (s.reg8 .b) 4 ticks4
  | .ldDC => f.load .d (s.reg8 .c) 4 ticks4
  | .ldDD => f.load .d (s.reg8 .d) 4 ticks4
  | .ldDE => f.load .d (s.reg8 .e) 4 ticks4
  | .ldDH => f.load .d (s.reg8 .h) 4 ticks4
  | .ldDL => f.load .d (s.reg8 .l) 4 ticks4
  | .ldDIndHl => f.load .d (memRead s s.hl) 8 ticks8
  | .ldDA => f.load .d (s.reg8 .a) 4 ticks4
  | .ldEB => f.load .e (s.reg8 .b) 4 ticks4
  | .ldEC => f.load .e (s.reg8 .c) 4 ticks4
  | .ldED => f.load .e (s.reg8 .d) 4 ticks4
  | .ldEE => f.load .e (s.reg8 .e) 4 ticks4
  | .ldEH => f.load .e (s.reg8 .h) 4 ticks4
  | .ldEL => f.load .e (s.reg8 .l) 4 ticks4
  | .ldEIndHl => f.load .e (memRead s s.hl) 8 ticks8
  | .ldEA => f.load .e (s.reg8 .a) 4 ticks4
  | .ldHB => f.load .h (s.reg8 .b) 4 ticks4
  | .ldHC => f.load .h (s.reg8 .c) 4 ticks4
  | .ldHD => f.load .h (s.reg8 .d) 4 ticks4
  | .ldHE => f.load .h (s.reg8 .e) 4 ticks4
  | .ldHH => f.load .h (s.reg8 .h) 4 ticks4
  | .ldHL => f.load .h (s.reg8 .l) 4 ticks4
  | .ldHIndHl => f.load .h (memRead s s.hl) 8 ticks8
  | .ldHA => f.load .h (s.reg8 .a) 4 ticks4
  | .ldLB => f.load .l (s.reg8 .b) 4 ticks4
  | .ldLC => f.load .l (s.reg8 .c) 4 ticks4
  | .ldLD => f.load .l (s.reg8 .d) 4 ticks4
  | .ldLE => f.load .l (s.reg8 .e) 4 ticks4
  | .ldLH => f.load .l (s.reg8 .h) 4 ticks4
  | .ldLL => f.load .l (s.reg8 .l) 4 ticks4
  | .ldLIndHl => f.load .l (memRead s s.hl) 8 ticks8
  | .ldLA => f.load .l (s.reg8 .a) 4 ticks4
  | .ldIndHlB => f.store s.hl (s.reg8 .b) 8 ticks8
  | .ldIndHlC => f.store s.hl (s.reg8 .c) 8 ticks8
  | .ldIndHlD => f.store s.hl (s.reg8 .d) 8 ticks8
  | .ldIndHlE => f.store s.hl (s.reg8 .e) 8 ticks8
  | .ldIndHlH => f.store s.hl (s.reg8 .h) 8 ticks8
  | .ldIndHlL => f.store s.hl (s.reg8 .l) 8 ticks8
  | .halt => f.halt
  | .ldIndHlA => f.store s.hl (s.reg8 .a) 8 ticks8
  | .ldAB => f.load .a (s.reg8 .b) 4 ticks4
  | .ldAC => f.load .a (s.reg8 .c) 4 ticks4
  | .ldAD => f.load .a (s.reg8 .d) 4 ticks4
  | .ldAE => f.load .a (s.reg8 .e) 4 ticks4
  | .ldAH => f.load .a (s.reg8 .h) 4 ticks4
  | .ldAL => f.load .a (s.reg8 .l) 4 ticks4
  | .ldAIndHl => f.load .a (memRead s s.hl) 8 ticks8
  | .ldAA => f.load .a (s.reg8 .a) 4 ticks4
  | .addAB => f.alu .add (s.reg8 .b) 4 ticks4
  | .addAC => f.alu .add (s.reg8 .c) 4 ticks4
  | .addAD => f.alu .add (s.reg8 .d) 4 ticks4
  | .addAE => f.alu .add (s.reg8 .e) 4 ticks4
  | .addAH => f.alu .add (s.reg8 .h) 4 ticks4
  | .addAL => f.alu .add (s.reg8 .l) 4 ticks4
  | .addAIndHl => f.alu .add (memRead s s.hl) 8 ticks8
  | .addAA => f.alu .add (s.reg8 .a) 4 ticks4
  | .adcAB => f.alu .adc (s.reg8 .b) 4 ticks4
  | .adcAC => f.alu .adc (s.reg8 .c) 4 ticks4
  | .adcAD => f.alu .adc (s.reg8 .d) 4 ticks4
  | .adcAE => f.alu .adc (s.reg8 .e) 4 ticks4
  | .adcAH => f.alu .adc (s.reg8 .h) 4 ticks4
  | .adcAL => f.alu .adc (s.reg8 .l) 4 ticks4
  | .adcAIndHl => f.alu .adc (memRead s s.hl) 8 ticks8
  | .adcAA => f.alu .adc (s.reg8 .a) 4 ticks4
  | .subB => f.alu .sub (s.reg8 .b) 4 ticks4
  | .subC => f.alu .sub (s.reg8 .c) 4 ticks4
  | .subD => f.alu .sub (s.reg8 .d) 4 ticks4
  | .subE => f.alu .sub (s.reg8 .e) 4 ticks4
  | .subH => f.alu .sub (s.reg8 .h) 4 ticks4
  | .subL => f.alu .sub (s.reg8 .l) 4 ticks4
  | .subIndHl => f.alu .sub (memRead s s.hl) 8 ticks8
  | .subA => f.alu .sub (s.reg8 .a) 4 ticks4
  | .sbcAB => f.alu .sbc (s.reg8 .b) 4 ticks4
  | .sbcAC => f.alu .sbc (s.reg8 .c) 4 ticks4
  | .sbcAD => f.alu .sbc (s.reg8 .d) 4 ticks4
  | .sbcAE => f.alu .sbc (s.reg8 .e) 4 ticks4
  | .sbcAH => f.alu .sbc (s.reg8 .h) 4 ticks4
  | .sbcAL => f.alu .sbc (s.reg8 .l) 4 ticks4
  | .sbcAIndHl => f.alu .sbc (memRead s s.hl) 8 ticks8
  | .sbcAA => f.alu .sbc (s.reg8 .a) 4 ticks4
  | .andB => f.alu .and (s.reg8 .b) 4 ticks4
  | .andC => f.alu .and (s.reg8 .c) 4 ticks4
  | .andD => f.alu .and (s.reg8 .d) 4 ticks4
  | .andE => f.alu .and (s.reg8 .e) 4 ticks4
  | .andH => f.alu .and (s.reg8 .h) 4 ticks4
  | .andL => f.alu .and (s.reg8 .l) 4 ticks4
  | .andIndHl => f.alu .and (memRead s s.hl) 8 ticks8
  | .andA => f.alu .and (s.reg8 .a) 4 ticks4
  | .xorB => f.alu .xor (s.reg8 .b) 4 ticks4
  | .xorC => f.alu .xor (s.reg8 .c) 4 ticks4
  | .xorD => f.alu .xor (s.reg8 .d) 4 ticks4
  | .xorE => f.alu .xor (s.reg8 .e) 4 ticks4
  | .xorH => f.alu .xor (s.reg8 .h) 4 ticks4
  | .xorL => f.alu .xor (s.reg8 .l) 4 ticks4
  | .xorIndHl => f.alu .xor (memRead s s.hl) 8 ticks8
  | .xorA => f.alu .xor (s.reg8 .a) 4 ticks4
  | .orB => f.alu .or (s.reg8 .b) 4 ticks4
  | .orC => f.alu .or (s.reg8 .c) 4 ticks4
  | .orD => f.alu .or (s.reg8 .d) 4 ticks4
  | .orE => f.alu .or (s.reg8 .e) 4 ticks4
  | .orH => f.alu .or (s.reg8 .h) 4 ticks4
  | .orL => f.alu .or (s.reg8 .l) 4 ticks4
  | .orIndHl => f.alu .or (memRead s s.hl) 8 ticks8
  | .orA => f.alu .or (s.reg8 .a) 4 ticks4
  | .cpB => f.alu .cp (s.reg8 .b) 4 ticks4
  | .cpC => f.alu .cp (s.reg8 .c) 4 ticks4
  | .cpD => f.alu .cp (s.reg8 .d) 4 ticks4
  | .cpE => f.alu .cp (s.reg8 .e) 4 ticks4
  | .cpH => f.alu .cp (s.reg8 .h) 4 ticks4
  | .cpL => f.alu .cp (s.reg8 .l) 4 ticks4
  | .cpIndHl => f.alu .cp (memRead s s.hl) 8 ticks8
  | .cpA => f.alu .cp (s.reg8 .a) 4 ticks4
  | .retNz => cond_of (s.cond .nz) (f.ret 20 ticks20) (f.idle 8 ticks8)
  | .popBc => f.pop .bc
  | .pushBc => f.push .bc
  | .rst00 => f.call 0x0000 16 ticks16
  | .retZ => cond_of (s.cond .z) (f.ret 20 ticks20) (f.idle 8 ticks8)
  | .ret => f.ret 16 ticks16
  | .rst08 => f.call 0x0008 16 ticks16
  | .retNc => cond_of (s.cond .nc) (f.ret 20 ticks20) (f.idle 8 ticks8)
  | .popDe => f.pop .de
  | .pushDe => f.push .de
  | .rst10 => f.call 0x0010 16 ticks16
  | .retC => cond_of (s.cond .c) (f.ret 20 ticks20) (f.idle 8 ticks8)
  | .reti => f.reti
  | .rst18 => f.call 0x0018 16 ticks16
  | .popHl => f.pop .hl
  | .ldhIndCA => f.store (highPage s.c) s.a 8 ticks8
  | .pushHl => f.push .hl
  | .rst20 => f.call 0x0020 16 ticks16
  | .jpHl => f.jump s.hl 4 ticks4
  | .rst28 => f.call 0x0028 16 ticks16
  | .popAf => f.pop .af
  | .ldhAIndC => f.load .a (memRead s (highPage s.c)) 8 ticks8
  | .di => f.di
  | .pushAf => f.push .af
  | .rst30 => f.call 0x0030 16 ticks16
  | .ldSpHl => f.spHl
  | .ei => f.ei
  | .rst38 => f.call 0x0038 16 ticks16
  | .rlcB => f.rotReg .rlc .b
  | .rlcC => f.rotReg .rlc .c
  | .rlcD => f.rotReg .rlc .d
  | .rlcE => f.rotReg .rlc .e
  | .rlcH => f.rotReg .rlc .h
  | .rlcL => f.rotReg .rlc .l
  | .rlcIndHl => f.rotMem .rlc
  | .rlcA => f.rotReg .rlc .a
  | .rrcB => f.rotReg .rrc .b
  | .rrcC => f.rotReg .rrc .c
  | .rrcD => f.rotReg .rrc .d
  | .rrcE => f.rotReg .rrc .e
  | .rrcH => f.rotReg .rrc .h
  | .rrcL => f.rotReg .rrc .l
  | .rrcIndHl => f.rotMem .rrc
  | .rrcA => f.rotReg .rrc .a
  | .rlB => f.rotReg .rl .b
  | .rlC => f.rotReg .rl .c
  | .rlD => f.rotReg .rl .d
  | .rlE => f.rotReg .rl .e
  | .rlH => f.rotReg .rl .h
  | .rlL => f.rotReg .rl .l
  | .rlIndHl => f.rotMem .rl
  | .rlA => f.rotReg .rl .a
  | .rrB => f.rotReg .rr .b
  | .rrC => f.rotReg .rr .c
  | .rrD => f.rotReg .rr .d
  | .rrE => f.rotReg .rr .e
  | .rrH => f.rotReg .rr .h
  | .rrL => f.rotReg .rr .l
  | .rrIndHl => f.rotMem .rr
  | .rrA => f.rotReg .rr .a
  | .slaB => f.rotReg .sla .b
  | .slaC => f.rotReg .sla .c
  | .slaD => f.rotReg .sla .d
  | .slaE => f.rotReg .sla .e
  | .slaH => f.rotReg .sla .h
  | .slaL => f.rotReg .sla .l
  | .slaIndHl => f.rotMem .sla
  | .slaA => f.rotReg .sla .a
  | .sraB => f.rotReg .sra .b
  | .sraC => f.rotReg .sra .c
  | .sraD => f.rotReg .sra .d
  | .sraE => f.rotReg .sra .e
  | .sraH => f.rotReg .sra .h
  | .sraL => f.rotReg .sra .l
  | .sraIndHl => f.rotMem .sra
  | .sraA => f.rotReg .sra .a
  | .swapB => f.rotReg .swap .b
  | .swapC => f.rotReg .swap .c
  | .swapD => f.rotReg .swap .d
  | .swapE => f.rotReg .swap .e
  | .swapH => f.rotReg .swap .h
  | .swapL => f.rotReg .swap .l
  | .swapIndHl => f.rotMem .swap
  | .swapA => f.rotReg .swap .a
  | .srlB => f.rotReg .srl .b
  | .srlC => f.rotReg .srl .c
  | .srlD => f.rotReg .srl .d
  | .srlE => f.rotReg .srl .e
  | .srlH => f.rotReg .srl .h
  | .srlL => f.rotReg .srl .l
  | .srlIndHl => f.rotMem .srl
  | .srlA => f.rotReg .srl .a
  | .bit0B => f.bit 0 (s.reg8 .b) 8 ticks8
  | .bit0C => f.bit 0 (s.reg8 .c) 8 ticks8
  | .bit0D => f.bit 0 (s.reg8 .d) 8 ticks8
  | .bit0E => f.bit 0 (s.reg8 .e) 8 ticks8
  | .bit0H => f.bit 0 (s.reg8 .h) 8 ticks8
  | .bit0L => f.bit 0 (s.reg8 .l) 8 ticks8
  | .bit0IndHl => f.bit 0 (memRead s s.hl) 12 ticks12
  | .bit0A => f.bit 0 (s.reg8 .a) 8 ticks8
  | .bit1B => f.bit 1 (s.reg8 .b) 8 ticks8
  | .bit1C => f.bit 1 (s.reg8 .c) 8 ticks8
  | .bit1D => f.bit 1 (s.reg8 .d) 8 ticks8
  | .bit1E => f.bit 1 (s.reg8 .e) 8 ticks8
  | .bit1H => f.bit 1 (s.reg8 .h) 8 ticks8
  | .bit1L => f.bit 1 (s.reg8 .l) 8 ticks8
  | .bit1IndHl => f.bit 1 (memRead s s.hl) 12 ticks12
  | .bit1A => f.bit 1 (s.reg8 .a) 8 ticks8
  | .bit2B => f.bit 2 (s.reg8 .b) 8 ticks8
  | .bit2C => f.bit 2 (s.reg8 .c) 8 ticks8
  | .bit2D => f.bit 2 (s.reg8 .d) 8 ticks8
  | .bit2E => f.bit 2 (s.reg8 .e) 8 ticks8
  | .bit2H => f.bit 2 (s.reg8 .h) 8 ticks8
  | .bit2L => f.bit 2 (s.reg8 .l) 8 ticks8
  | .bit2IndHl => f.bit 2 (memRead s s.hl) 12 ticks12
  | .bit2A => f.bit 2 (s.reg8 .a) 8 ticks8
  | .bit3B => f.bit 3 (s.reg8 .b) 8 ticks8
  | .bit3C => f.bit 3 (s.reg8 .c) 8 ticks8
  | .bit3D => f.bit 3 (s.reg8 .d) 8 ticks8
  | .bit3E => f.bit 3 (s.reg8 .e) 8 ticks8
  | .bit3H => f.bit 3 (s.reg8 .h) 8 ticks8
  | .bit3L => f.bit 3 (s.reg8 .l) 8 ticks8
  | .bit3IndHl => f.bit 3 (memRead s s.hl) 12 ticks12
  | .bit3A => f.bit 3 (s.reg8 .a) 8 ticks8
  | .bit4B => f.bit 4 (s.reg8 .b) 8 ticks8
  | .bit4C => f.bit 4 (s.reg8 .c) 8 ticks8
  | .bit4D => f.bit 4 (s.reg8 .d) 8 ticks8
  | .bit4E => f.bit 4 (s.reg8 .e) 8 ticks8
  | .bit4H => f.bit 4 (s.reg8 .h) 8 ticks8
  | .bit4L => f.bit 4 (s.reg8 .l) 8 ticks8
  | .bit4IndHl => f.bit 4 (memRead s s.hl) 12 ticks12
  | .bit4A => f.bit 4 (s.reg8 .a) 8 ticks8
  | .bit5B => f.bit 5 (s.reg8 .b) 8 ticks8
  | .bit5C => f.bit 5 (s.reg8 .c) 8 ticks8
  | .bit5D => f.bit 5 (s.reg8 .d) 8 ticks8
  | .bit5E => f.bit 5 (s.reg8 .e) 8 ticks8
  | .bit5H => f.bit 5 (s.reg8 .h) 8 ticks8
  | .bit5L => f.bit 5 (s.reg8 .l) 8 ticks8
  | .bit5IndHl => f.bit 5 (memRead s s.hl) 12 ticks12
  | .bit5A => f.bit 5 (s.reg8 .a) 8 ticks8
  | .bit6B => f.bit 6 (s.reg8 .b) 8 ticks8
  | .bit6C => f.bit 6 (s.reg8 .c) 8 ticks8
  | .bit6D => f.bit 6 (s.reg8 .d) 8 ticks8
  | .bit6E => f.bit 6 (s.reg8 .e) 8 ticks8
  | .bit6H => f.bit 6 (s.reg8 .h) 8 ticks8
  | .bit6L => f.bit 6 (s.reg8 .l) 8 ticks8
  | .bit6IndHl => f.bit 6 (memRead s s.hl) 12 ticks12
  | .bit6A => f.bit 6 (s.reg8 .a) 8 ticks8
  | .bit7B => f.bit 7 (s.reg8 .b) 8 ticks8
  | .bit7C => f.bit 7 (s.reg8 .c) 8 ticks8
  | .bit7D => f.bit 7 (s.reg8 .d) 8 ticks8
  | .bit7E => f.bit 7 (s.reg8 .e) 8 ticks8
  | .bit7H => f.bit 7 (s.reg8 .h) 8 ticks8
  | .bit7L => f.bit 7 (s.reg8 .l) 8 ticks8
  | .bit7IndHl => f.bit 7 (memRead s s.hl) 12 ticks12
  | .bit7A => f.bit 7 (s.reg8 .a) 8 ticks8
  | .res0B => f.resReg 0 .b
  | .res0C => f.resReg 0 .c
  | .res0D => f.resReg 0 .d
  | .res0E => f.resReg 0 .e
  | .res0H => f.resReg 0 .h
  | .res0L => f.resReg 0 .l
  | .res0IndHl => f.resMem 0
  | .res0A => f.resReg 0 .a
  | .res1B => f.resReg 1 .b
  | .res1C => f.resReg 1 .c
  | .res1D => f.resReg 1 .d
  | .res1E => f.resReg 1 .e
  | .res1H => f.resReg 1 .h
  | .res1L => f.resReg 1 .l
  | .res1IndHl => f.resMem 1
  | .res1A => f.resReg 1 .a
  | .res2B => f.resReg 2 .b
  | .res2C => f.resReg 2 .c
  | .res2D => f.resReg 2 .d
  | .res2E => f.resReg 2 .e
  | .res2H => f.resReg 2 .h
  | .res2L => f.resReg 2 .l
  | .res2IndHl => f.resMem 2
  | .res2A => f.resReg 2 .a
  | .res3B => f.resReg 3 .b
  | .res3C => f.resReg 3 .c
  | .res3D => f.resReg 3 .d
  | .res3E => f.resReg 3 .e
  | .res3H => f.resReg 3 .h
  | .res3L => f.resReg 3 .l
  | .res3IndHl => f.resMem 3
  | .res3A => f.resReg 3 .a
  | .res4B => f.resReg 4 .b
  | .res4C => f.resReg 4 .c
  | .res4D => f.resReg 4 .d
  | .res4E => f.resReg 4 .e
  | .res4H => f.resReg 4 .h
  | .res4L => f.resReg 4 .l
  | .res4IndHl => f.resMem 4
  | .res4A => f.resReg 4 .a
  | .res5B => f.resReg 5 .b
  | .res5C => f.resReg 5 .c
  | .res5D => f.resReg 5 .d
  | .res5E => f.resReg 5 .e
  | .res5H => f.resReg 5 .h
  | .res5L => f.resReg 5 .l
  | .res5IndHl => f.resMem 5
  | .res5A => f.resReg 5 .a
  | .res6B => f.resReg 6 .b
  | .res6C => f.resReg 6 .c
  | .res6D => f.resReg 6 .d
  | .res6E => f.resReg 6 .e
  | .res6H => f.resReg 6 .h
  | .res6L => f.resReg 6 .l
  | .res6IndHl => f.resMem 6
  | .res6A => f.resReg 6 .a
  | .res7B => f.resReg 7 .b
  | .res7C => f.resReg 7 .c
  | .res7D => f.resReg 7 .d
  | .res7E => f.resReg 7 .e
  | .res7H => f.resReg 7 .h
  | .res7L => f.resReg 7 .l
  | .res7IndHl => f.resMem 7
  | .res7A => f.resReg 7 .a
  | .set0B => f.setReg 0 .b
  | .set0C => f.setReg 0 .c
  | .set0D => f.setReg 0 .d
  | .set0E => f.setReg 0 .e
  | .set0H => f.setReg 0 .h
  | .set0L => f.setReg 0 .l
  | .set0IndHl => f.setMem 0
  | .set0A => f.setReg 0 .a
  | .set1B => f.setReg 1 .b
  | .set1C => f.setReg 1 .c
  | .set1D => f.setReg 1 .d
  | .set1E => f.setReg 1 .e
  | .set1H => f.setReg 1 .h
  | .set1L => f.setReg 1 .l
  | .set1IndHl => f.setMem 1
  | .set1A => f.setReg 1 .a
  | .set2B => f.setReg 2 .b
  | .set2C => f.setReg 2 .c
  | .set2D => f.setReg 2 .d
  | .set2E => f.setReg 2 .e
  | .set2H => f.setReg 2 .h
  | .set2L => f.setReg 2 .l
  | .set2IndHl => f.setMem 2
  | .set2A => f.setReg 2 .a
  | .set3B => f.setReg 3 .b
  | .set3C => f.setReg 3 .c
  | .set3D => f.setReg 3 .d
  | .set3E => f.setReg 3 .e
  | .set3H => f.setReg 3 .h
  | .set3L => f.setReg 3 .l
  | .set3IndHl => f.setMem 3
  | .set3A => f.setReg 3 .a
  | .set4B => f.setReg 4 .b
  | .set4C => f.setReg 4 .c
  | .set4D => f.setReg 4 .d
  | .set4E => f.setReg 4 .e
  | .set4H => f.setReg 4 .h
  | .set4L => f.setReg 4 .l
  | .set4IndHl => f.setMem 4
  | .set4A => f.setReg 4 .a
  | .set5B => f.setReg 5 .b
  | .set5C => f.setReg 5 .c
  | .set5D => f.setReg 5 .d
  | .set5E => f.setReg 5 .e
  | .set5H => f.setReg 5 .h
  | .set5L => f.setReg 5 .l
  | .set5IndHl => f.setMem 5
  | .set5A => f.setReg 5 .a
  | .set6B => f.setReg 6 .b
  | .set6C => f.setReg 6 .c
  | .set6D => f.setReg 6 .d
  | .set6E => f.setReg 6 .e
  | .set6H => f.setReg 6 .h
  | .set6L => f.setReg 6 .l
  | .set6IndHl => f.setMem 6
  | .set6A => f.setReg 6 .a
  | .set7B => f.setReg 7 .b
  | .set7C => f.setReg 7 .c
  | .set7D => f.setReg 7 .d
  | .set7E => f.setReg 7 .e
  | .set7H => f.setReg 7 .h
  | .set7L => f.setReg 7 .l
  | .set7IndHl => f.setMem 7
  | .set7A => f.setReg 7 .a

/-! ## The forms of one rule: the selected instruction does the shared operation -/

theorem exec_ldReg (s : State) (dst r : Reg8) : exec (.ldReg dst r) s = loadReg dst (s.reg8 r) 4 s := by
  cases dst <;> cases r <;> rfl
theorem exec_ldImm (s : State) (r : Reg8) (n : Byte) : exec (.ldImm r n) s = loadReg r n 8 s := by
  cases r <;> rfl
theorem exec_ldFromHl (s : State) (r : Reg8) : exec (.ldFromHl r) s = loadReg r (memRead s s.hl) 8 s := by
  cases r <;> rfl
theorem exec_ldToHl (s : State) (r : Reg8) : exec (.ldToHl r) s = storeAt s.hl (s.reg8 r) 8 s := by
  cases r <;> rfl
theorem exec_ldPair (s : State) (p : Reg16) (nn : Word) : exec (.ldPair p nn) s = .next ((s.setReg16 p nn).spend 12) := by
  cases p <;> rfl
theorem exec_push (s : State) (q : StackReg) : exec (.push q) s = pushReg q s := by
  cases q <;> rfl
theorem exec_pop (s : State) (q : StackReg) : exec (.pop q) s = popReg q s := by
  cases q <;> rfl
theorem exec_aluReg (s : State) (op : AluOp) (r : Reg8) : exec (.aluReg op r) s = aluA op (s.reg8 r) 4 s := by
  cases op <;> cases r <;> rfl
theorem exec_aluHl (s : State) (op : AluOp) : exec (.aluHl op) s = aluA op (memRead s s.hl) 8 s := by
  cases op <;> rfl
theorem exec_aluImm (s : State) (op : AluOp) (n : Byte) : exec (.aluImm op n) s = aluA op n 8 s := by
  cases op <;> rfl
theorem exec_incReg (s : State) (r : Reg8) : exec (.incReg r) s = updateReg r (inc8 (s.reg8 r) s.cf) 4 s := by
  cases r <;> rfl
theorem exec_decReg (s : State) (r : Reg8) : exec (.decReg r) s = updateReg r (dec8 (s.reg8 r) s.cf) 4 s := by
  cases r <;> rfl
theorem exec_addHl (s : State) (p : Reg16) : exec (.addHl p) s = addToHl (s.reg16 p) s := by
  cases p <;> rfl
theorem exec_incPair (s : State) (p : Reg16) : exec (.incPair p) s = stepPair p (s.reg16 p + 1) s := by
  cases p <;> rfl
theorem exec_decPair (s : State) (p : Reg16) : exec (.decPair p) s = stepPair p (s.reg16 p - 1) s := by
  cases p <;> rfl
theorem exec_rotReg (s : State) (op : RotOp) (r : Reg8) : exec (.rotReg op r) s = rotateReg op r s := by
  cases op <;> cases r <;> rfl
theorem exec_rotHl (s : State) (op : RotOp) : exec (.rotHl op) s = rotateMem op s := by
  cases op <;> rfl
theorem exec_bitReg (s : State) (k : Fin 8) (r : Reg8) : exec (.bitReg k r) s = testBit k (s.reg8 r) 8 s := by
  fin_cases k <;> cases r <;> rfl
theorem exec_bitHl (s : State) (k : Fin 8) : exec (.bitHl k) s = testBit k (memRead s s.hl) 12 s := by
  fin_cases k <;> rfl
theorem exec_resReg (s : State) (k : Fin 8) (r : Reg8) : exec (.resReg k r) s = resetBitReg k r s := by
  fin_cases k <;> cases r <;> rfl
theorem exec_resHl (s : State) (k : Fin 8) : exec (.resHl k) s = resetBitMem k s := by
  fin_cases k <;> rfl
theorem exec_setReg (s : State) (k : Fin 8) (r : Reg8) : exec (.setReg k r) s = setBitReg k r s := by
  fin_cases k <;> cases r <;> rfl
theorem exec_setHl (s : State) (k : Fin 8) : exec (.setHl k) s = setBitMem k s := by
  fin_cases k <;> rfl
theorem exec_jpCc (s : State) (cc : Cond) (nn : Word) : exec (.jpCc cc nn) s = if s.cond cc then jumpTo nn 16 s else .next (s.spend 12) := by
  cases cc <;> rfl
theorem exec_jrCc (s : State) (cc : Cond) (e : Byte) : exec (.jrCc cc e) s = if s.cond cc then jumpTo (s.pc + sext16 e) 12 s else .next (s.spend 8) := by
  cases cc <;> rfl
theorem exec_callCc (s : State) (cc : Cond) (nn : Word) : exec (.callCc cc nn) s = if s.cond cc then callTo nn 24 s else .next (s.spend 12) := by
  cases cc <;> rfl
theorem exec_retCc (s : State) (cc : Cond) : exec (.retCc cc) s = if s.cond cc then returnFrom 20 s else .next (s.spend 8) := by
  cases cc <;> rfl
theorem exec_rst (s : State) (k : Fin 8) : exec (.rst k) s = callTo (BitVec.ofNat 16 (8 * k.val)) 16 s := by
  fin_cases k <;> rfl

end Sys2Proof.Machine
end

