-- ==== Sys2Proof/Laws/Flags.lean ====
section
/-! SUPPORT. F and its four flags, and what each routine of the ALU computes. -/

namespace Sys2Proof.Machine

variable (z n h cy : Bool)

@[simp] theorem mkF_z : (mkF z n h cy)[7] = z := by revert z n h cy; decide
@[simp] theorem mkF_n : (mkF z n h cy)[6] = n := by revert z n h cy; decide
@[simp] theorem mkF_h : (mkF z n h cy)[5] = h := by revert z n h cy; decide
@[simp] theorem mkF_cy : (mkF z n h cy)[4] = cy := by revert z n h cy; decide
theorem mkF_low : mkF z n h cy &&& 0x0F = 0 := by revert z n h cy; decide

/-- A byte with its low nibble cleared keeps its four high bits. -/
theorem and_F0_bits (v : Byte) :
    (v &&& 0xF0).getLsbD 7 = v.getLsbD 7 ∧ (v &&& 0xF0).getLsbD 6 = v.getLsbD 6 ∧
    (v &&& 0xF0).getLsbD 5 = v.getLsbD 5 ∧ (v &&& 0xF0).getLsbD 4 = v.getLsbD 4 ∧ (v &&& 0xF0) &&& 0x0F = 0 := by
  revert v; decide

theorem toNat_and_F0 (v : Byte) : (v &&& 0xF0).toNat = v.toNat / 16 * 16 := by revert v; decide

/-- A state whose F was written flag by flag has those flags. -/
theorem hasFlags_of_f {t : State} (e : t.f = mkF z n h cy) : HasFlags t z n h cy :=
  ⟨by simp [e], by simp [e], by simp [e], by simp [e], by rw [e]; exact mkF_low z n h cy⟩

theorem cond_eq_condHolds (s : State) (cc : Cond) : s.cond cc = condHolds s cc := by
  cases cc <;> simp [State.cond, condHolds, State.zf, State.cf]

/-! ## The routines -/

variable (a v : Byte) (cin : Bool)

theorem add8_res : (add8 a v cin).res.toNat = (a.toNat + v.toNat + cin.toNat) % 256 := by simp [add8]

theorem sub8_res : ((sub8 a v cin).res.toNat : Int) = ((a.toNat : Int) - v.toNat - cin.toNat) % 256 := by
  simp only [sub8, BitVec.toNat_ofInt]
  omega

theorem daaOut_res (nf hf : Bool) :
    ((daaOut a nf hf cin).res.toNat : Int) = (daaAdjust a nf hf cin).1 % 256 := by
  simp only [daaOut, BitVec.toNat_ofInt]
  omega

theorem add16_res (x y : Word) : (add16 x y).res.toNat = (x.toNat + y.toNat) % 0x10000 := by simp [add16]

end Sys2Proof.Machine
end

