-- ==== Sys2Proof/Laws/Loader.lean ====
section
/-! SUPPORT. The loader: what a run of 0xFF bytes adds to a ROM image, and when an image is loaded. -/

namespace Sys2Proof.Machine

/-- Nothing is listed at an address above every entry. -/
theorem erase_of_below (m : Memory) (a : Nat) (h : ∀ c ∈ m, c.1 < a) : m.erase a = m := by
  induction m with
  | nil => rfl
  | cons c m ih =>
    obtain ⟨k, v⟩ := c
    have hk : k < a := h (k, v) (by simp)
    have := ih fun c hc => h c (by simp [hc])
    simp only [Memory.erase]
    split <;> first | omega | rw [this]

/-- Bytes equal to what an absent ROM byte reads as are not listed. -/
theorem store_absent (n k : Nat) (m : Memory) (h : ∀ c ∈ m, c.1 < k) :
    ((List.replicate n (0xFF : Byte)).zipIdx k).foldl (fun m p => Memory.store .rom m p.2 p.1) m = m := by
  induction n generalizing k with
  | zero => rfl
  | succ n ih =>
    have e : Memory.store .rom m k 0xFF = m := erase_of_below m k h
    rw [List.replicate_succ, List.zipIdx_cons, List.foldl_cons, e]
    exact ih (k + 1) fun c hc => Nat.lt_succ_of_lt (h c hc)

/-- An image that passes the checks is loaded. -/
theorem loadCart_ok {image : List Byte} {saved : Option Memory} {rom : Memory} {size ramBanks : Nat} {kind : CartKind}
    (h : romOfBytes image = rom) (hs : romSizeOfCode (romImageByte rom 0x148) = some size)
    (hr : ramBanksOfCode (romImageByte rom 0x149) = some ramBanks) (hl : image.length = size)
    (hc : headerChecksum rom = romImageByte rom 0x14D) (hk : kindOfType (romImageByte rom 0x147) = some kind) :
    loadCart image saved = .ok ({ kind := kind, romBanks := size / 0x4000, ramBanks := ramBanks
                                  battery := Config.cartBattery (romImageByte rom 0x147), saved := saved
                                  nibbleRam := Config.cartNibbleRam (romImageByte rom 0x147) }, rom) := by
  unfold loadCart
  simp only [h, hs, hr, hl, hc, hk, ne_eq, not_true_eq_false, if_false]

/-- A loaded cartridge starts its machine. -/
theorem startWith_ok {p : Params} {image : List Byte} {saved : Option Memory} {sched : List Move} {cart : Cart}
    {rom : Memory} (h : loadCart image saved = .ok (cart, rom)) :
    startWith p image saved sched = .ok (State.resetWith p cart rom 0 sched) := by
  unfold startWith
  rw [h]

end Sys2Proof.Machine
end

