-- ==== Sys2Proof/Laws/Ops.lean ====
section
/-! SUPPORT. The shared operations: what each can do, said once. -/

namespace Sys2Proof.Machine

variable (s : State)

/-! ## Bus writes keep what is invariant -/

theorem cartCommand_bankLo (a : Word) (v : Byte) (h : s.bankLo ≠ 0) : (s.cartCommand a v).bankLo ≠ 0 := by
  unfold State.cartCommand
  have hb : ({ s with bankLo := if v.extractLsb' 0 5 = 0 then 1 else v.extractLsb' 0 5 } : State).bankLo ≠ 0 := by
    dsimp only
    split <;> simp_all
  cases s.cart.kind
  case romOnly | other => exact h
  all_goals
    dsimp only
    split
    · exact h
    · split
      · exact hb
      · split <;> exact h

/-- Every write keeps the canonical form of RAM. -/
theorem memWrite_mem_wf (a : Word) (v : Byte) (h : Memory.wf .onboard s.mem = true) :
    Memory.wf .onboard (memWrite s a v).mem = true := by
  rcases memWrite_cases s a v with e | ⟨n, w, e⟩ | e | e | e | ⟨i, e⟩ | ⟨i, e⟩ <;> rw [e]
  · exact h
  · exact Memory.wf_store h n w
  · rwa [cartCommand_eq]
  · rwa [cartRamWrite_eq]
  · rwa [timerWrite_frame]
  · exact h
  · exact h

/-- Every write keeps the canonical form of cartridge RAM. -/
theorem memWrite_cartRam_wf (a : Word) (v : Byte) (h : Memory.wf .cartRam s.cartRam = true) :
    Memory.wf .cartRam (memWrite s a v).cartRam = true := by
  rcases memWrite_cases s a v with e | ⟨n, w, e⟩ | e | e | e | ⟨i, e⟩ | ⟨i, e⟩ <;> rw [e]
  · exact h
  · exact h
  · rwa [cartCommand_eq]
  · unfold State.cartRamWrite
    split
    · exact h
    · exact h
    · exact Memory.wf_store h _ _
  · rwa [timerWrite_frame]
  · exact h
  · exact h

theorem memWrite_bankLo (a : Word) (v : Byte) (h : s.bankLo ≠ 0) : (memWrite s a v).bankLo ≠ 0 := by
  rcases memWrite_cases s a v with e | ⟨n, w, e⟩ | e | e | e | ⟨i, e⟩ | ⟨i, e⟩ <;> rw [e]
  · exact h
  · exact h
  · exact cartCommand_bankLo s a v h
  · rwa [cartRamWrite_eq]
  · rwa [timerWrite_frame]
  · exact h
  · exact h

theorem memWrite_timaTicks (a : Word) (v : Byte) (h : 0 < s.timaTicks) : 0 < (memWrite s a v).timaTicks := by
  rcases memWrite_cases s a v with e | ⟨n, w, e⟩ | e | e | e | ⟨i, e⟩ | ⟨i, e⟩ <;> rw [e]
  · exact h
  · exact h
  · rwa [cartCommand_eq]
  · rwa [cartRamWrite_eq]
  · exact timerWrite_pos s a v h
  · exact h
  · exact h

/-- Placing a program's byte keeps the canonical form of the three memories. -/
theorem placeByte_wf (a : Word) (v : Byte) (hm : Memory.wf .onboard s.mem = true)
    (hc : Memory.wf .cartRam s.cartRam = true) (hr : Memory.wf .rom s.rom = true) :
    Memory.wf .onboard (placeByte s a v).mem = true ∧ Memory.wf .cartRam (placeByte s a v).cartRam = true ∧
      Memory.wf .rom (placeByte s a v).rom = true := by
  unfold placeByte
  split
  · exact ⟨hm, hc, Memory.wf_store hr _ _⟩
  · cases ownerOf a
    case romFixed | romBanked => exact ⟨hm, hc, Memory.wf_store hr _ _⟩
    case videoRam | workRam | oam | highRam | echo => exact ⟨Memory.wf_store hm _ _, hc, hr⟩
    case cartRam =>
      refine ⟨?_, ?_, ?_⟩
      · show Memory.wf .onboard (s.cartRamWrite a v).mem = true
        rwa [cartRamWrite_eq]
      · show Memory.wf .cartRam (s.cartRamWrite a v).cartRam = true
        unfold State.cartRamWrite
        split
        · exact hc
        · exact hc
        · exact Memory.wf_store hc _ _
      · show Memory.wf .rom (s.cartRamWrite a v).rom = true
        rwa [cartRamWrite_eq]
    all_goals exact ⟨hm, hc, hr⟩

/-! ## The stack -/

theorem memWrite_sp_update (w : Word) (a : Word) (v : Byte) :
    memWrite { s with sp := w } a v = { memWrite s a v with sp := w } := by
  have e : { s with sp := w } = withCpuOf s { s with sp := w } := rfl
  rw [e, memWrite_withCpuOf]
  generalize ht : memWrite s a v = t
  have h := memWrite_eq s a v
  rw [ht] at h
  rw [h]
  rfl

/-- `Push16` is two bus writes below SP, the high byte at the higher address (R66). -/
theorem push16_eq (v : Word) :
    push16 s v = { memWrite (memWrite s (s.sp - 1) (hi8 v)) (s.sp - 2) (lo8 v) with sp := s.sp - 2 } := by
  have e : s.sp - 1 - 1 = s.sp - 2 := by bv_omega
  simp only [push16, memWrite_sp_update, e]

/-- `Pop16` reads the low byte at SP and the high byte above it (R67). -/
theorem hi8_popValue : hi8 (popValue s) = memRead s (s.sp + 1) := hi8_mkWord _ _
theorem lo8_popValue : lo8 (popValue s) = memRead s s.sp := lo8_mkWord _ _

/-! ## Interrupts -/

/-- Interrupt entry, field by field (R320). -/
theorem interruptEntry_eq :
    interruptEntry s =
      { memWrite (memWrite s (s.sp - 1) (hi8 s.pc)) (s.sp - 2) (lo8 s.pc) with
        sp := s.sp - 2, pc := vector (lowestBit s.pendingArmed), ime := false, halted := false
        joypadWakeOnly := false
        iflag := (memWrite (memWrite s (s.sp - 1) (hi8 s.pc)) (s.sp - 2) (lo8 s.pc)).iflag &&&
          ~~~((1 : BitVec 5) <<< lowestBit s.pendingArmed) } := by
  have e (a : Word) (v : Byte) (s : State) :
      memWrite { s with ime := false, halted := false, joypadWakeOnly := false } a v =
        { memWrite s a v with ime := false, halted := false, joypadWakeOnly := false } := by
    have h : { s with ime := false, halted := false, joypadWakeOnly := false } =
        withCpuOf s { s with ime := false, halted := false, joypadWakeOnly := false } := rfl
    rw [h, memWrite_withCpuOf]
    generalize ht : memWrite s a v = t
    have h := memWrite_eq s a v
    rw [ht] at h
    rw [h]
    rfl
  unfold interruptEntry
  simp only [push16_eq, e]

/-- The source accepted is pending and armed, and none below it is (R325). -/
theorem lowestBit_spec (p : BitVec 5) (h : p ≠ 0) :
    lowestBit p < 5 ∧ p.getLsbD (lowestBit p) = true ∧ ∀ j, j < lowestBit p → p.getLsbD j = false := by
  revert h
  revert p
  decide

/-! ## The step -/

/-- What a step of the CPU can be, when it answers a next state: no fault is recorded, and an interrupt is accepted, or
the CPU idles, or it executes (R322). -/
theorem cpuStep_cases {t : State} (h : cpuStep s = .next t) :
    s.fault = none ∧
    ((∃ u, interruptCheck s = .entered u ∧ t = u) ∨
     (∃ u, interruptCheck s = .goOn u ∧ u.halted = true ∧ t = u.spend 4) ∨
     (∃ u, interruptCheck s = .goOn u ∧ u.halted = false ∧ executeOne u = .next t)) := by
  unfold cpuStep at h
  split at h
  · cases h
  · refine ⟨by assumption, ?_⟩
    split at h
    · cases h
      exact .inl ⟨_, by assumption, rfl⟩
    · split at h
      · cases h
        exact .inr (.inl ⟨_, by assumption, by assumption, rfl⟩)
      · exact .inr (.inr ⟨_, by assumption, Bool.eq_false_of_not_eq_true (by assumption), h⟩)

/-- The interrupt check that accepts one: the state before is awake or not, and the entry costs 20 ticks. -/
theorem interruptCheck_entered {t : State} (h : interruptCheck s = .entered t) :
    s.eiInhibit = false ∧ accepts (wakeUp s) = true ∧ t = (interruptEntry (wakeUp s)).spend 20 := by
  unfold interruptCheck at h
  split at h
  · cases h
  · dsimp only at h
    split at h
    · cases h
      exact ⟨Bool.eq_false_of_not_eq_true (by assumption), by assumption, rfl⟩
    · cases h

/-- The interrupt check that goes on. -/
theorem interruptCheck_goOn {t : State} (h : interruptCheck s = .goOn t) :
    (s.eiInhibit = true ∧ t = { s with eiInhibit := false }) ∨
    (s.eiInhibit = false ∧ accepts (wakeUp s) = false ∧ t = wakeUp s) := by
  unfold interruptCheck at h
  split at h
  · cases h
    exact .inl ⟨by assumption, rfl⟩
  · dsimp only at h
    split at h
    · cases h
    · cases h
      exact .inr ⟨Bool.eq_false_of_not_eq_true (by assumption), Bool.eq_false_of_not_eq_true (by assumption), rfl⟩

/-- Waking changes the two halted flags at most. -/
theorem wakeUp_eq : wakeUp s = { s with halted := (wakeUp s).halted, joypadWakeOnly := (wakeUp s).joypadWakeOnly } := by
  unfold wakeUp
  split <;> rfl

/-- What a step of the machine can be, when it answers a next state. -/
theorem step_cases {t : State} (h : step s = .next t) :
    (s.schedule = [] ∧ cpuStep s = .next t) ∨
    (∃ rest, s.schedule = .cpu :: rest ∧ cpuStep { s with schedule := rest } = .next t) ∨
    (∃ rest, s.schedule = .reset :: rest ∧ t = hostReset { s with schedule := rest }) ∨
    (∃ m rest, s.schedule = m :: rest ∧ m ≠ .cpu ∧ m ≠ .reset ∧ s.fault = none ∧
      t = applyMove m { s with schedule := rest }) := by
  unfold step machineStep at h
  split at h
  · exact .inl ⟨by assumption, h⟩
  · exact .inr (.inl ⟨_, by assumption, h⟩)
  · cases h
    exact .inr (.inr (.inl ⟨_, by assumption, rfl⟩))
  · split at h
    · cases h
    · cases h
      refine .inr (.inr (.inr ⟨_, _, by assumption, ?_, ?_, by assumption, rfl⟩)) <;> rintro rfl <;> simp_all

/-- With an empty schedule the CPU moves. -/
theorem step_of_empty (h : s.schedule = []) : step s = cpuStep s := by
  unfold step machineStep
  split <;> first | rfl | simp_all

theorem wakeUp_of_not_halted (h : s.halted = false) : wakeUp s = s := by simp [wakeUp, h]

theorem eiInhibit_self (h : s.eiInhibit = false) : { s with eiInhibit := false } = s := by rw [← h]

/-- A machine that fetches executes the instruction at PC. -/
theorem step_of_fetches (h : Fetches s) : step s = executeOne { s with eiInhibit := false } := by
  obtain ⟨hs, hf, hh, hq⟩ := h
  have hc : interruptCheck s = .goOn { s with eiInhibit := false } := by
    unfold interruptCheck
    split
    · rfl
    · rename_i he
      have he := Bool.eq_false_of_not_eq_true he
      have ha : accepts s = false := by
        rcases hq with h | h | h
        · simp [he] at h
        · simp [accepts, h]
        · simp [accepts, State.isPending, h]
      simp only [wakeUp_of_not_halted s hh, ha, eiInhibit_self s he]
      rfl
  rw [step_of_empty s hs]
  simp only [cpuStep, hf, hc, hh]
  rfl

end Sys2Proof.Machine
end

