-- ==== Sys2Proof/Laws/PerInstr.lean ====
section
/-! SUPPORT. The statements made of each instruction as syntax. `RoundTrip`: decoding its encoding gives it back, whatever
bytes follow. -/

namespace Sys2Proof.Laws.RoundTrip

/-- Decoding the encoding of a well-formed `i` gives `i`, whatever bytes follow. -/
def Statement (i : Instr) : Prop :=
  wellFormed i = true → ∀ rest, decode (encode i ++ rest) = .ok (i, rest)

/-- An opcode that is the whole instruction. -/
theorem ofOne {b0 : Byte} {i : Instr} (hl : instrLength b0 = 1) (hd : ∀ b1 b2, decodeOp b0 b1 b2 = i)
    (rest : List Byte) : decode (b0 :: rest) = .ok (i, rest) := by
  simp [decode, hl, hd]

/-- An opcode and one more byte. -/
theorem ofTwo {b0 b1 : Byte} {i : Instr} (hl : instrLength b0 = 2) (hd : ∀ b2, decodeOp b0 b1 b2 = i)
    (rest : List Byte) : decode (b0 :: b1 :: rest) = .ok (i, rest) := by
  simp [decode, hl, hd]

/-- An opcode and two more bytes. -/
theorem ofThree {b0 b1 b2 : Byte} {i : Instr} (hl : instrLength b0 = 3) (hd : decodeOp b0 b1 b2 = i)
    (rest : List Byte) : decode (b0 :: b1 :: b2 :: rest) = .ok (i, rest) := by
  simp [decode, hl, hd]

/-- Each of the eleven opcodes of R114 is one byte long and decodes to itself as an invalid opcode. -/
theorem invalid_decodes : ∀ op ∈ invalidOpcodes, instrLength op = 1 ∧ ∀ b1 b2, decodeOp op b1 b2 = .illegal op := by
  intro op h
  simp only [invalidOpcodes, List.mem_cons, List.not_mem_nil, or_false] at h
  rcases h with rfl | rfl | rfl | rfl | rfl | rfl | rfl | rfl | rfl | rfl | rfl <;> exact ⟨rfl, fun _ _ => rfl⟩

theorem ldBcNn (nn : Word) : Statement (.ldBcNn nn) := fun _ rest => ofThree (b0 := 0x01) (b1 := lo8 nn) (b2 := hi8 nn) rfl (congrArg Instr.ldBcNn (mkWord_hi8_lo8 nn)) rest
theorem ldBN (n : Byte) : Statement (.ldBN n) := fun _ rest => ofTwo rfl (fun _ => rfl) rest
theorem ldIndNnSp (nn : Word) : Statement (.ldIndNnSp nn) := fun _ rest => ofThree (b0 := 0x08) (b1 := lo8 nn) (b2 := hi8 nn) rfl (congrArg Instr.ldIndNnSp (mkWord_hi8_lo8 nn)) rest
theorem ldCN (n : Byte) : Statement (.ldCN n) := fun _ rest => ofTwo rfl (fun _ => rfl) rest
theorem stop (n : Byte) : Statement (.stop n) := fun _ rest => ofTwo rfl (fun _ => rfl) rest
theorem ldDeNn (nn : Word) : Statement (.ldDeNn nn) := fun _ rest => ofThree (b0 := 0x11) (b1 := lo8 nn) (b2 := hi8 nn) rfl (congrArg Instr.ldDeNn (mkWord_hi8_lo8 nn)) rest
theorem ldDN (n : Byte) : Statement (.ldDN n) := fun _ rest => ofTwo rfl (fun _ => rfl) rest
theorem jrE (e : Byte) : Statement (.jrE e) := fun _ rest => ofTwo rfl (fun _ => rfl) rest
theorem ldEN (n : Byte) : Statement (.ldEN n) := fun _ rest => ofTwo rfl (fun _ => rfl) rest
theorem jrNzE (e : Byte) : Statement (.jrNzE e) := fun _ rest => ofTwo rfl (fun _ => rfl) rest
theorem ldHlNn (nn : Word) : Statement (.ldHlNn nn) := fun _ rest => ofThree (b0 := 0x21) (b1 := lo8 nn) (b2 := hi8 nn) rfl (congrArg Instr.ldHlNn (mkWord_hi8_lo8 nn)) rest
theorem ldHN (n : Byte) : Statement (.ldHN n) := fun _ rest => ofTwo rfl (fun _ => rfl) rest
theorem jrZE (e : Byte) : Statement (.jrZE e) := fun _ rest => ofTwo rfl (fun _ => rfl) rest
theorem ldLN (n : Byte) : Statement (.ldLN n) := fun _ rest => ofTwo rfl (fun _ => rfl) rest
theorem jrNcE (e : Byte) : Statement (.jrNcE e) := fun _ rest => ofTwo rfl (fun _ => rfl) rest
theorem ldSpNn (nn : Word) : Statement (.ldSpNn nn) := fun _ rest => ofThree (b0 := 0x31) (b1 := lo8 nn) (b2 := hi8 nn) rfl (congrArg Instr.ldSpNn (mkWord_hi8_lo8 nn)) rest
theorem ldIndHlN (n : Byte) : Statement (.ldIndHlN n) := fun _ rest => ofTwo rfl (fun _ => rfl) rest
theorem jrCE (e : Byte) : Statement (.jrCE e) := fun _ rest => ofTwo rfl (fun _ => rfl) rest
theorem ldAN (n : Byte) : Statement (.ldAN n) := fun _ rest => ofTwo rfl (fun _ => rfl) rest
theorem jpNzNn (nn : Word) : Statement (.jpNzNn nn) := fun _ rest => ofThree (b0 := 0xC2) (b1 := lo8 nn) (b2 := hi8 nn) rfl (congrArg Instr.jpNzNn (mkWord_hi8_lo8 nn)) rest
theorem jpNn (nn : Word) : Statement (.jpNn nn) := fun _ rest => ofThree (b0 := 0xC3) (b1 := lo8 nn) (b2 := hi8 nn) rfl (congrArg Instr.jpNn (mkWord_hi8_lo8 nn)) rest
theorem callNzNn (nn : Word) : Statement (.callNzNn nn) := fun _ rest => ofThree (b0 := 0xC4) (b1 := lo8 nn) (b2 := hi8 nn) rfl (congrArg Instr.callNzNn (mkWord_hi8_lo8 nn)) rest
theorem addAN (n : Byte) : Statement (.addAN n) := fun _ rest => ofTwo rfl (fun _ => rfl) rest
theorem jpZNn (nn : Word) : Statement (.jpZNn nn) := fun _ rest => ofThree (b0 := 0xCA) (b1 := lo8 nn) (b2 := hi8 nn) rfl (congrArg Instr.jpZNn (mkWord_hi8_lo8 nn)) rest
theorem prefixCb (op2 : Byte) : Statement (.prefixCb op2) := fun h => nomatch h
theorem callZNn (nn : Word) : Statement (.callZNn nn) := fun _ rest => ofThree (b0 := 0xCC) (b1 := lo8 nn) (b2 := hi8 nn) rfl (congrArg Instr.callZNn (mkWord_hi8_lo8 nn)) rest
theorem callNn (nn : Word) : Statement (.callNn nn) := fun _ rest => ofThree (b0 := 0xCD) (b1 := lo8 nn) (b2 := hi8 nn) rfl (congrArg Instr.callNn (mkWord_hi8_lo8 nn)) rest
theorem adcAN (n : Byte) : Statement (.adcAN n) := fun _ rest => ofTwo rfl (fun _ => rfl) rest
theorem jpNcNn (nn : Word) : Statement (.jpNcNn nn) := fun _ rest => ofThree (b0 := 0xD2) (b1 := lo8 nn) (b2 := hi8 nn) rfl (congrArg Instr.jpNcNn (mkWord_hi8_lo8 nn)) rest
theorem illegal (op : Byte) : Statement (.illegal op) := fun h rest =>
  have hop := invalid_decodes op (List.contains_iff_mem.1 h)
  ofOne hop.1 hop.2 rest
theorem callNcNn (nn : Word) : Statement (.callNcNn nn) := fun _ rest => ofThree (b0 := 0xD4) (b1 := lo8 nn) (b2 := hi8 nn) rfl (congrArg Instr.callNcNn (mkWord_hi8_lo8 nn)) rest
theorem subN (n : Byte) : Statement (.subN n) := fun _ rest => ofTwo rfl (fun _ => rfl) rest
theorem jpCNn (nn : Word) : Statement (.jpCNn nn) := fun _ rest => ofThree (b0 := 0xDA) (b1 := lo8 nn) (b2 := hi8 nn) rfl (congrArg Instr.jpCNn (mkWord_hi8_lo8 nn)) rest
theorem callCNn (nn : Word) : Statement (.callCNn nn) := fun _ rest => ofThree (b0 := 0xDC) (b1 := lo8 nn) (b2 := hi8 nn) rfl (congrArg Instr.callCNn (mkWord_hi8_lo8 nn)) rest
theorem sbcAN (n : Byte) : Statement (.sbcAN n) := fun _ rest => ofTwo rfl (fun _ => rfl) rest
theorem ldhIndNA (n : Byte) : Statement (.ldhIndNA n) := fun _ rest => ofTwo rfl (fun _ => rfl) rest
theorem andN (n : Byte) : Statement (.andN n) := fun _ rest => ofTwo rfl (fun _ => rfl) rest
theorem addSpE (e : Byte) : Statement (.addSpE e) := fun _ rest => ofTwo rfl (fun _ => rfl) rest
theorem ldIndNnA (nn : Word) : Statement (.ldIndNnA nn) := fun _ rest => ofThree (b0 := 0xEA) (b1 := lo8 nn) (b2 := hi8 nn) rfl (congrArg Instr.ldIndNnA (mkWord_hi8_lo8 nn)) rest
theorem xorN (n : Byte) : Statement (.xorN n) := fun _ rest => ofTwo rfl (fun _ => rfl) rest
theorem ldhAIndN (n : Byte) : Statement (.ldhAIndN n) := fun _ rest => ofTwo rfl (fun _ => rfl) rest
theorem orN (n : Byte) : Statement (.orN n) := fun _ rest => ofTwo rfl (fun _ => rfl) rest
theorem ldHlSpE (e : Byte) : Statement (.ldHlSpE e) := fun _ rest => ofTwo rfl (fun _ => rfl) rest
theorem ldAIndNn (nn : Word) : Statement (.ldAIndNn nn) := fun _ rest => ofThree (b0 := 0xFA) (b1 := lo8 nn) (b2 := hi8 nn) rfl (congrArg Instr.ldAIndNn (mkWord_hi8_lo8 nn)) rest
theorem cpN (n : Byte) : Statement (.cpN n) := fun _ rest => ofTwo rfl (fun _ => rfl) rest
theorem nop : Statement .nop := fun _ rest => ofOne rfl (fun _ _ => rfl) rest
theorem ldIndBcA : Statement .ldIndBcA := fun _ rest => ofOne rfl (fun _ _ => rfl) rest
theorem incBc : Statement .incBc := fun _ rest => ofOne rfl (fun _ _ => rfl) rest
theorem incB : Statement .incB := fun _ rest => ofOne rfl (fun _ _ => rfl) rest
theorem decB : Statement .decB := fun _ rest => ofOne rfl (fun _ _ => rfl) rest
theorem rlca : Statement .rlca := fun _ rest => ofOne rfl (fun _ _ => rfl) rest
theorem addHlBc : Statement .addHlBc := fun _ rest => ofOne rfl (fun _ _ => rfl) rest
theorem ldAIndBc : Statement .ldAIndBc := fun _ rest => ofOne rfl (fun _ _ => rfl) rest
theorem decBc : Statement .decBc := fun _ rest => ofOne rfl (fun _ _ => rfl) rest
theorem incC : Statement .incC := fun _ rest => ofOne rfl (fun _ _ => rfl) rest
theorem decC : Statement .decC := fun _ rest => ofOne rfl (fun _ _ => rfl) rest
theorem rrca : Statement .rrca := fun _ rest => ofOne rfl (fun _ _ => rfl) rest
theorem ldIndDeA : Statement .ldIndDeA := fun _ rest => ofOne rfl (fun _ _ => rfl) rest
theorem incDe : Statement .incDe := fun _ rest => ofOne rfl (fun _ _ => rfl) rest
theorem incD : Statement .incD := fun _ rest => ofOne rfl (fun _ _ => rfl) rest
theorem decD : Statement .decD := fun _ rest => ofOne rfl (fun _ _ => rfl) rest
theorem rla : Statement .rla := fun _ rest => ofOne rfl (fun _ _ => rfl) rest
theorem addHlDe : Statement .addHlDe := fun _ rest => ofOne rfl (fun _ _ => rfl) rest
theorem ldAIndDe : Statement .ldAIndDe := fun _ rest => ofOne rfl (fun _ _ => rfl) rest
theorem decDe : Statement .decDe := fun _ rest => ofOne rfl (fun _ _ => rfl) rest
theorem incE : Statement .incE := fun _ rest => ofOne rfl (fun _ _ => rfl) rest
theorem decE : Statement .decE := fun _ rest => ofOne rfl (fun _ _ => rfl) rest
theorem rra : Statement .rra := fun _ rest => ofOne rfl (fun _ _ => rfl) rest
theorem ldIndHlIncA : Statement .ldIndHlIncA := fun _ rest => ofOne rfl (fun _ _ => rfl) rest
theorem incHl : Statement .incHl := fun _ rest => ofOne rfl (fun _ _ => rfl) rest
theorem incH : Statement .incH := fun _ rest => ofOne rfl (fun _ _ => rfl) rest
theorem decH : Statement .decH := fun _ rest => ofOne rfl (fun _ _ => rfl) rest
theorem daa : Statement .daa := fun _ rest => ofOne rfl (fun _ _ => rfl) rest
theorem addHlHl : Statement .addHlHl := fun _ rest => ofOne rfl (fun _ _ => rfl) rest
theorem ldAIndHlInc : Statement .ldAIndHlInc := fun _ rest => ofOne rfl (fun _ _ => rfl) rest
theorem decHl : Statement .decHl := fun _ rest => ofOne rfl (fun _ _ => rfl) rest
theorem incL : Statement .incL := fun _ rest => ofOne rfl (fun _ _ => rfl) rest
theorem decL : Statement .decL := fun _ rest => ofOne rfl (fun _ _ => rfl) rest
theorem cpl : Statement .cpl := fun _ rest => ofOne rfl (fun _ _ => rfl) rest
theorem ldIndHlDecA : Statement .ldIndHlDecA := fun _ rest => ofOne rfl (fun _ _ => rfl) rest
theorem incSp : Statement .incSp := fun _ rest => ofOne rfl (fun _ _ => rfl) rest
theorem incIndHl : Statement .incIndHl := fun _ rest => ofOne rfl (fun _ _ => rfl) rest
theorem decIndHl : Statement .decIndHl := fun _ rest => ofOne rfl (fun _ _ => rfl) rest
theorem scf : Statement .scf := fun _ rest => ofOne rfl (fun _ _ => rfl) rest
theorem addHlSp : Statement .addHlSp := fun _ rest => ofOne rfl (fun _ _ => rfl) rest
theorem ldAIndHlDec : Statement .ldAIndHlDec := fun _ rest => ofOne rfl (fun _ _ => rfl) rest
theorem decSp : Statement .decSp := fun _ rest => ofOne rfl (fun _ _ => rfl) rest
theorem incA : Statement .incA := fun _ rest => ofOne rfl (fun _ _ => rfl) rest
theorem decA : Statement .decA := fun _ rest => ofOne rfl (fun _ _ => rfl) rest
theorem ccf : Statement .ccf := fun _ rest => ofOne rfl (fun _ _ => rfl) rest
theorem ldBB : Statement .ldBB := fun _ rest => ofOne rfl (fun _ _ => rfl) rest
theorem ldBC : Statement .ldBC := fun _ rest => ofOne rfl (fun _ _ => rfl) rest
theorem ldBD : Statement .ldBD := fun _ rest => ofOne rfl (fun _ _ => rfl) rest
theorem ldBE : Statement .ldBE := fun _ rest => ofOne rfl (fun _ _ => rfl) rest
theorem ldBH : Statement .ldBH := fun _ rest => ofOne rfl (fun _ _ => rfl) rest
theorem ldBL : Statement .ldBL := fun _ rest => ofOne rfl (fun _ _ => rfl) rest
theorem ldBIndHl : Statement .ldBIndHl := fun _ rest => ofOne rfl (fun _ _ => rfl) rest
theorem ldBA : Statement .ldBA := fun _ rest => ofOne rfl (fun _ _ => rfl) rest
theorem ldCB : Statement .ldCB := fun _ rest => ofOne rfl (fun _ _ => rfl) rest
theorem ldCC : Statement .ldCC := fun _ rest => ofOne rfl (fun _ _ => rfl) rest
theorem ldCD : Statement .ldCD := fun _ rest => ofOne rfl (fun _ _ => rfl) rest
theorem ldCE : Statement .ldCE := fun _ rest => ofOne rfl (fun _ _ => rfl) rest
theorem ldCH : Statement .ldCH := fun _ rest => ofOne rfl (fun _ _ => rfl) rest
theorem ldCL : Statement .ldCL := fun _ rest => ofOne rfl (fun _ _ => rfl) rest
theorem ldCIndHl : Statement .ldCIndHl := fun _ rest => ofOne rfl (fun _ _ => rfl) rest
theorem ldCA : Statement .ldCA := fun _ rest => ofOne rfl (fun _ _ => rfl) rest
theorem ldDB : Statement .ldDB := fun _ rest => ofOne rfl (fun _ _ => rfl) rest
theorem ldDC : Statement .ldDC := fun _ rest => ofOne rfl (fun _ _ => rfl) rest
theorem ldDD : Statement .ldDD := fun _ rest => ofOne rfl (fun _ _ => rfl) rest
theorem ldDE : Statement .ldDE := fun _ rest => ofOne rfl (fun _ _ => rfl) rest
theorem ldDH : Statement .ldDH := fun _ rest => ofOne rfl (fun _ _ => rfl) rest
theorem ldDL : Statement .ldDL := fun _ rest => ofOne rfl (fun _ _ => rfl) rest
theorem ldDIndHl : Statement .ldDIndHl := fun _ rest => ofOne rfl (fun _ _ => rfl) rest
theorem ldDA : Statement .ldDA := fun _ rest => ofOne rfl (fun _ _ => rfl) rest
theorem ldEB : Statement .ldEB := fun _ rest => ofOne rfl (fun _ _ => rfl) rest
theorem ldEC : Statement .ldEC := fun _ rest => ofOne rfl (fun _ _ => rfl) rest
theorem ldED : Statement .ldED := fun _ rest => ofOne rfl (fun _ _ => rfl) rest
theorem ldEE : Statement .ldEE := fun _ rest => ofOne rfl (fun _ _ => rfl) rest
theorem ldEH : Statement .ldEH := fun _ rest => ofOne rfl (fun _ _ => rfl) rest
theorem ldEL : Statement .ldEL := fun _ rest => ofOne rfl (fun _ _ => rfl) rest
theorem ldEIndHl : Statement .ldEIndHl := fun _ rest => ofOne rfl (fun _ _ => rfl) rest
theorem ldEA : Statement .ldEA := fun _ rest => ofOne rfl (fun _ _ => rfl) rest
theorem ldHB : Statement .ldHB := fun _ rest => ofOne rfl (fun _ _ => rfl) rest
theorem ldHC : Statement .ldHC := fun _ rest => ofOne rfl (fun _ _ => rfl) rest
theorem ldHD : Statement .ldHD := fun _ rest => ofOne rfl (fun _ _ => rfl) rest
theorem ldHE : Statement .ldHE := fun _ rest => ofOne rfl (fun _ _ => rfl) rest
theorem ldHH : Statement .ldHH := fun _ rest => ofOne rfl (fun _ _ => rfl) rest
theorem ldHL : Statement .ldHL := fun _ rest => ofOne rfl (fun _ _ => rfl) rest
theorem ldHIndHl : Statement .ldHIndHl := fun _ rest => ofOne rfl (fun _ _ => rfl) rest
theorem ldHA : Statement .ldHA := fun _ rest => ofOne rfl (fun _ _ => rfl) rest
theorem ldLB : Statement .ldLB := fun _ rest => ofOne rfl (fun _ _ => rfl) rest
theorem ldLC : Statement .ldLC := fun _ rest => ofOne rfl (fun _ _ => rfl) rest
theorem ldLD : Statement .ldLD := fun _ rest => ofOne rfl (fun _ _ => rfl) rest
theorem ldLE : Statement .ldLE := fun _ rest => ofOne rfl (fun _ _ => rfl) rest
theorem ldLH : Statement .ldLH := fun _ rest => ofOne rfl (fun _ _ => rfl) rest
theorem ldLL : Statement .ldLL := fun _ rest => ofOne rfl (fun _ _ => rfl) rest
theorem ldLIndHl : Statement .ldLIndHl := fun _ rest => ofOne rfl (fun _ _ => rfl) rest
theorem ldLA : Statement .ldLA := fun _ rest => ofOne rfl (fun _ _ => rfl) rest
theorem ldIndHlB : Statement .ldIndHlB := fun _ rest => ofOne rfl (fun _ _ => rfl) rest
theorem ldIndHlC : Statement .ldIndHlC := fun _ rest => ofOne rfl (fun _ _ => rfl) rest
theorem ldIndHlD : Statement .ldIndHlD := fun _ rest => ofOne rfl (fun _ _ => rfl) rest
theorem ldIndHlE : Statement .ldIndHlE := fun _ rest => ofOne rfl (fun _ _ => rfl) rest
theorem ldIndHlH : Statement .ldIndHlH := fun _ rest => ofOne rfl (fun _ _ => rfl) rest
theorem ldIndHlL : Statement .ldIndHlL := fun _ rest => ofOne rfl (fun _ _ => rfl) rest
theorem halt : Statement .halt := fun _ rest => ofOne rfl (fun _ _ => rfl) rest
theorem ldIndHlA : Statement .ldIndHlA := fun _ rest => ofOne rfl (fun _ _ => rfl) rest
theorem ldAB : Statement .ldAB := fun _ rest => ofOne rfl (fun _ _ => rfl) rest
theorem ldAC : Statement .ldAC := fun _ rest => ofOne rfl (fun _ _ => rfl) rest
theorem ldAD : Statement .ldAD := fun _ rest => ofOne rfl (fun _ _ => rfl) rest
theorem ldAE : Statement .ldAE := fun _ rest => ofOne rfl (fun _ _ => rfl) rest
theorem ldAH : Statement .ldAH := fun _ rest => ofOne rfl (fun _ _ => rfl) rest
theorem ldAL : Statement .ldAL := fun _ rest => ofOne rfl (fun _ _ => rfl) rest
theorem ldAIndHl : Statement .ldAIndHl := fun _ rest => ofOne rfl (fun _ _ => rfl) rest
theorem ldAA : Statement .ldAA := fun _ rest => ofOne rfl (fun _ _ => rfl) rest
theorem addAB : Statement .addAB := fun _ rest => ofOne rfl (fun _ _ => rfl) rest
theorem addAC : Statement .addAC := fun _ rest => ofOne rfl (fun _ _ => rfl) rest
theorem addAD : Statement .addAD := fun _ rest => ofOne rfl (fun _ _ => rfl) rest
theorem addAE : Statement .addAE := fun _ rest => ofOne rfl (fun _ _ => rfl) rest
theorem addAH : Statement .addAH := fun _ rest => ofOne rfl (fun _ _ => rfl) rest
theorem addAL : Statement .addAL := fun _ rest => ofOne rfl (fun _ _ => rfl) rest
theorem addAIndHl : Statement .addAIndHl := fun _ rest => ofOne rfl (fun _ _ => rfl) rest
theorem addAA : Statement .addAA := fun _ rest => ofOne rfl (fun _ _ => rfl) rest
theorem adcAB : Statement .adcAB := fun _ rest => ofOne rfl (fun _ _ => rfl) rest
theorem adcAC : Statement .adcAC := fun _ rest => ofOne rfl (fun _ _ => rfl) rest
theorem adcAD : Statement .adcAD := fun _ rest => ofOne rfl (fun _ _ => rfl) rest
theorem adcAE : Statement .adcAE := fun _ rest => ofOne rfl (fun _ _ => rfl) rest
theorem adcAH : Statement .adcAH := fun _ rest => ofOne rfl (fun _ _ => rfl) rest
theorem adcAL : Statement .adcAL := fun _ rest => ofOne rfl (fun _ _ => rfl) rest
theorem adcAIndHl : Statement .adcAIndHl := fun _ rest => ofOne rfl (fun _ _ => rfl) rest
theorem adcAA : Statement .adcAA := fun _ rest => ofOne rfl (fun _ _ => rfl) rest
theorem subB : Statement .subB := fun _ rest => ofOne rfl (fun _ _ => rfl) rest
theorem subC : Statement .subC := fun _ rest => ofOne rfl (fun _ _ => rfl) rest
theorem subD : Statement .subD := fun _ rest => ofOne rfl (fun _ _ => rfl) rest
theorem subE : Statement .subE := fun _ rest => ofOne rfl (fun _ _ => rfl) rest
theorem subH : Statement .subH := fun _ rest => ofOne rfl (fun _ _ => rfl) rest
theorem subL : Statement .subL := fun _ rest => ofOne rfl (fun _ _ => rfl) rest
theorem subIndHl : Statement .subIndHl := fun _ rest => ofOne rfl (fun _ _ => rfl) rest
theorem subA : Statement .subA := fun _ rest => ofOne rfl (fun _ _ => rfl) rest
theorem sbcAB : Statement .sbcAB := fun _ rest => ofOne rfl (fun _ _ => rfl) rest
theorem sbcAC : Statement .sbcAC := fun _ rest => ofOne rfl (fun _ _ => rfl) rest
theorem sbcAD : Statement .sbcAD := fun _ rest => ofOne rfl (fun _ _ => rfl) rest
theorem sbcAE : Statement .sbcAE := fun _ rest => ofOne rfl (fun _ _ => rfl) rest
theorem sbcAH : Statement .sbcAH := fun _ rest => ofOne rfl (fun _ _ => rfl) rest
theorem sbcAL : Statement .sbcAL := fun _ rest => ofOne rfl (fun _ _ => rfl) rest
theorem sbcAIndHl : Statement .sbcAIndHl := fun _ rest => ofOne rfl (fun _ _ => rfl) rest
theorem sbcAA : Statement .sbcAA := fun _ rest => ofOne rfl (fun _ _ => rfl) rest
theorem andB : Statement .andB := fun _ rest => ofOne rfl (fun _ _ => rfl) rest
theorem andC : Statement .andC := fun _ rest => ofOne rfl (fun _ _ => rfl) rest
theorem andD : Statement .andD := fun _ rest => ofOne rfl (fun _ _ => rfl) rest
theorem andE : Statement .andE := fun _ rest => ofOne rfl (fun _ _ => rfl) rest
theorem andH : Statement .andH := fun _ rest => ofOne rfl (fun _ _ => rfl) rest
theorem andL : Statement .andL := fun _ rest => ofOne rfl (fun _ _ => rfl) rest
theorem andIndHl : Statement .andIndHl := fun _ rest => ofOne rfl (fun _ _ => rfl) rest
theorem andA : Statement .andA := fun _ rest => ofOne rfl (fun _ _ => rfl) rest
theorem xorB : Statement .xorB := fun _ rest => ofOne rfl (fun _ _ => rfl) rest
theorem xorC : Statement .xorC := fun _ rest => ofOne rfl (fun _ _ => rfl) rest
theorem xorD : Statement .xorD := fun _ rest => ofOne rfl (fun _ _ => rfl) rest
theorem xorE : Statement .xorE := fun _ rest => ofOne rfl (fun _ _ => rfl) rest
theorem xorH : Statement .xorH := fun _ rest => ofOne rfl (fun _ _ => rfl) rest
theorem xorL : Statement .xorL := fun _ rest => ofOne rfl (fun _ _ => rfl) rest
theorem xorIndHl : Statement .xorIndHl := fun _ rest => ofOne rfl (fun _ _ => rfl) rest
theorem xorA : Statement .xorA := fun _ rest => ofOne rfl (fun _ _ => rfl) rest
theorem orB : Statement .orB := fun _ rest => ofOne rfl (fun _ _ => rfl) rest
theorem orC : Statement .orC := fun _ rest => ofOne rfl (fun _ _ => rfl) rest
theorem orD : Statement .orD := fun _ rest => ofOne rfl (fun _ _ => rfl) rest
theorem orE : Statement .orE := fun _ rest => ofOne rfl (fun _ _ => rfl) rest
theorem orH : Statement .orH := fun _ rest => ofOne rfl (fun _ _ => rfl) rest
theorem orL : Statement .orL := fun _ rest => ofOne rfl (fun _ _ => rfl) rest
theorem orIndHl : Statement .orIndHl := fun _ rest => ofOne rfl (fun _ _ => rfl) rest
theorem orA : Statement .orA := fun _ rest => ofOne rfl (fun _ _ => rfl) rest
theorem cpB : Statement .cpB := fun _ rest => ofOne rfl (fun _ _ => rfl) rest
theorem cpC : Statement .cpC := fun _ rest => ofOne rfl (fun _ _ => rfl) rest
theorem cpD : Statement .cpD := fun _ rest => ofOne rfl (fun _ _ => rfl) rest
theorem cpE : Statement .cpE := fun _ rest => ofOne rfl (fun _ _ => rfl) rest
theorem cpH : Statement .cpH := fun _ rest => ofOne rfl (fun _ _ => rfl) rest
theorem cpL : Statement .cpL := fun _ rest => ofOne rfl (fun _ _ => rfl) rest
theorem cpIndHl : Statement .cpIndHl := fun _ rest => ofOne rfl (fun _ _ => rfl) rest
theorem cpA : Statement .cpA := fun _ rest => ofOne rfl (fun _ _ => rfl) rest
theorem retNz : Statement .retNz := fun _ rest => ofOne rfl (fun _ _ => rfl) rest
theorem popBc : Statement .popBc := fun _ rest => ofOne rfl (fun _ _ => rfl) rest
theorem pushBc : Statement .pushBc := fun _ rest => ofOne rfl (fun _ _ => rfl) rest
theorem rst00 : Statement .rst00 := fun _ rest => ofOne rfl (fun _ _ => rfl) rest
theorem retZ : Statement .retZ := fun _ rest => ofOne rfl (fun _ _ => rfl) rest
theorem ret : Statement .ret := fun _ rest => ofOne rfl (fun _ _ => rfl) rest
theorem rst08 : Statement .rst08 := fun _ rest => ofOne rfl (fun _ _ => rfl) rest
theorem retNc : Statement .retNc := fun _ rest => ofOne rfl (fun _ _ => rfl) rest
theorem popDe : Statement .popDe := fun _ rest => ofOne rfl (fun _ _ => rfl) rest
theorem pushDe : Statement .pushDe := fun _ rest => ofOne rfl (fun _ _ => rfl) rest
theorem rst10 : Statement .rst10 := fun _ rest => ofOne rfl (fun _ _ => rfl) rest
theorem retC : Statement .retC := fun _ rest => ofOne rfl (fun _ _ => rfl) rest
theorem reti : Statement .reti := fun _ rest => ofOne rfl (fun _ _ => rfl) rest
theorem rst18 : Statement .rst18 := fun _ rest => ofOne rfl (fun _ _ => rfl) rest
theorem popHl : Statement .popHl := fun _ rest => ofOne rfl (fun _ _ => rfl) rest
theorem ldhIndCA : Statement .ldhIndCA := fun _ rest => ofOne rfl (fun _ _ => rfl) rest
theorem pushHl : Statement .pushHl := fun _ rest => ofOne rfl (fun _ _ => rfl) rest
theorem rst20 : Statement .rst20 := fun _ rest => ofOne rfl (fun _ _ => rfl) rest
theorem jpHl : Statement .jpHl := fun _ rest => ofOne rfl (fun _ _ => rfl) rest
theorem rst28 : Statement .rst28 := fun _ rest => ofOne rfl (fun _ _ => rfl) rest
theorem popAf : Statement .popAf := fun _ rest => ofOne rfl (fun _ _ => rfl) rest
theorem ldhAIndC : Statement .ldhAIndC := fun _ rest => ofOne rfl (fun _ _ => rfl) rest
theorem di : Statement .di := fun _ rest => ofOne rfl (fun _ _ => rfl) rest
theorem pushAf : Statement .pushAf := fun _ rest => ofOne rfl (fun _ _ => rfl) rest
theorem rst30 : Statement .rst30 := fun _ rest => ofOne rfl (fun _ _ => rfl) rest
theorem ldSpHl : Statement .ldSpHl := fun _ rest => ofOne rfl (fun _ _ => rfl) rest
theorem ei : Statement .ei := fun _ rest => ofOne rfl (fun _ _ => rfl) rest
theorem rst38 : Statement .rst38 := fun _ rest => ofOne rfl (fun _ _ => rfl) rest
theorem rlcB : Statement .rlcB := fun _ rest => ofTwo rfl (fun _ => rfl) rest
theorem rlcC : Statement .rlcC := fun _ rest => ofTwo rfl (fun _ => rfl) rest
theorem rlcD : Statement .rlcD := fun _ rest => ofTwo rfl (fun _ => rfl) rest
theorem rlcE : Statement .rlcE := fun _ rest => ofTwo rfl (fun _ => rfl) rest
theorem rlcH : Statement .rlcH := fun _ rest => ofTwo rfl (fun _ => rfl) rest
theorem rlcL : Statement .rlcL := fun _ rest => ofTwo rfl (fun _ => rfl) rest
theorem rlcIndHl : Statement .rlcIndHl := fun _ rest => ofTwo rfl (fun _ => rfl) rest
theorem rlcA : Statement .rlcA := fun _ rest => ofTwo rfl (fun _ => rfl) rest
theorem rrcB : Statement .rrcB := fun _ rest => ofTwo rfl (fun _ => rfl) rest
theorem rrcC : Statement .rrcC := fun _ rest => ofTwo rfl (fun _ => rfl) rest
theorem rrcD : Statement .rrcD := fun _ rest => ofTwo rfl (fun _ => rfl) rest
theorem rrcE : Statement .rrcE := fun _ rest => ofTwo rfl (fun _ => rfl) rest
theorem rrcH : Statement .rrcH := fun _ rest => ofTwo rfl (fun _ => rfl) rest
theorem rrcL : Statement .rrcL := fun _ rest => ofTwo rfl (fun _ => rfl) rest
theorem rrcIndHl : Statement .rrcIndHl := fun _ rest => ofTwo rfl (fun _ => rfl) rest
theorem rrcA : Statement .rrcA := fun _ rest => ofTwo rfl (fun _ => rfl) rest
theorem rlB : Statement .rlB := fun _ rest => ofTwo rfl (fun _ => rfl) rest
theorem rlC : Statement .rlC := fun _ rest => ofTwo rfl (fun _ => rfl) rest
theorem rlD : Statement .rlD := fun _ rest => ofTwo rfl (fun _ => rfl) rest
theorem rlE : Statement .rlE := fun _ rest => ofTwo rfl (fun _ => rfl) rest
theorem rlH : Statement .rlH := fun _ rest => ofTwo rfl (fun _ => rfl) rest
theorem rlL : Statement .rlL := fun _ rest => ofTwo rfl (fun _ => rfl) rest
theorem rlIndHl : Statement .rlIndHl := fun _ rest => ofTwo rfl (fun _ => rfl) rest
theorem rlA : Statement .rlA := fun _ rest => ofTwo rfl (fun _ => rfl) rest
theorem rrB : Statement .rrB := fun _ rest => ofTwo rfl (fun _ => rfl) rest
theorem rrC : Statement .rrC := fun _ rest => ofTwo rfl (fun _ => rfl) rest
theorem rrD : Statement .rrD := fun _ rest => ofTwo rfl (fun _ => rfl) rest
theorem rrE : Statement .rrE := fun _ rest => ofTwo rfl (fun _ => rfl) rest
theorem rrH : Statement .rrH := fun _ rest => ofTwo rfl (fun _ => rfl) rest
theorem rrL : Statement .rrL := fun _ rest => ofTwo rfl (fun _ => rfl) rest
theorem rrIndHl : Statement .rrIndHl := fun _ rest => ofTwo rfl (fun _ => rfl) rest
theorem rrA : Statement .rrA := fun _ rest => ofTwo rfl (fun _ => rfl) rest
theorem slaB : Statement .slaB := fun _ rest => ofTwo rfl (fun _ => rfl) rest
theorem slaC : Statement .slaC := fun _ rest => ofTwo rfl (fun _ => rfl) rest
theorem slaD : Statement .slaD := fun _ rest => ofTwo rfl (fun _ => rfl) rest
theorem slaE : Statement .slaE := fun _ rest => ofTwo rfl (fun _ => rfl) rest
theorem slaH : Statement .slaH := fun _ rest => ofTwo rfl (fun _ => rfl) rest
theorem slaL : Statement .slaL := fun _ rest => ofTwo rfl (fun _ => rfl) rest
theorem slaIndHl : Statement .slaIndHl := fun _ rest => ofTwo rfl (fun _ => rfl) rest
theorem slaA : Statement .slaA := fun _ rest => ofTwo rfl (fun _ => rfl) rest
theorem sraB : Statement .sraB := fun _ rest => ofTwo rfl (fun _ => rfl) rest
theorem sraC : Statement .sraC := fun _ rest => ofTwo rfl (fun _ => rfl) rest
theorem sraD : Statement .sraD := fun _ rest => ofTwo rfl (fun _ => rfl) rest
theorem sraE : Statement .sraE := fun _ rest => ofTwo rfl (fun _ => rfl) rest
theorem sraH : Statement .sraH := fun _ rest => ofTwo rfl (fun _ => rfl) rest
theorem sraL : Statement .sraL := fun _ rest => ofTwo rfl (fun _ => rfl) rest
theorem sraIndHl : Statement .sraIndHl := fun _ rest => ofTwo rfl (fun _ => rfl) rest
theorem sraA : Statement .sraA := fun _ rest => ofTwo rfl (fun _ => rfl) rest
theorem swapB : Statement .swapB := fun _ rest => ofTwo rfl (fun _ => rfl) rest
theorem swapC : Statement .swapC := fun _ rest => ofTwo rfl (fun _ => rfl) rest
theorem swapD : Statement .swapD := fun _ rest => ofTwo rfl (fun _ => rfl) rest
theorem swapE : Statement .swapE := fun _ rest => ofTwo rfl (fun _ => rfl) rest
theorem swapH : Statement .swapH := fun _ rest => ofTwo rfl (fun _ => rfl) rest
theorem swapL : Statement .swapL := fun _ rest => ofTwo rfl (fun _ => rfl) rest
theorem swapIndHl : Statement .swapIndHl := fun _ rest => ofTwo rfl (fun _ => rfl) rest
theorem swapA : Statement .swapA := fun _ rest => ofTwo rfl (fun _ => rfl) rest
theorem srlB : Statement .srlB := fun _ rest => ofTwo rfl (fun _ => rfl) rest
theorem srlC : Statement .srlC := fun _ rest => ofTwo rfl (fun _ => rfl) rest
theorem srlD : Statement .srlD := fun _ rest => ofTwo rfl (fun _ => rfl) rest
theorem srlE : Statement .srlE := fun _ rest => ofTwo rfl (fun _ => rfl) rest
theorem srlH : Statement .srlH := fun _ rest => ofTwo rfl (fun _ => rfl) rest
theorem srlL : Statement .srlL := fun _ rest => ofTwo rfl (fun _ => rfl) rest
theorem srlIndHl : Statement .srlIndHl := fun _ rest => ofTwo rfl (fun _ => rfl) rest
theorem srlA : Statement .srlA := fun _ rest => ofTwo rfl (fun _ => rfl) rest
theorem bit0B : Statement .bit0B := fun _ rest => ofTwo rfl (fun _ => rfl) rest
theorem bit0C : Statement .bit0C := fun _ rest => ofTwo rfl (fun _ => rfl) rest
theorem bit0D : Statement .bit0D := fun _ rest => ofTwo rfl (fun _ => rfl) rest
theorem bit0E : Statement .bit0E := fun _ rest => ofTwo rfl (fun _ => rfl) rest
theorem bit0H : Statement .bit0H := fun _ rest => ofTwo rfl (fun _ => rfl) rest
theorem bit0L : Statement .bit0L := fun _ rest => ofTwo rfl (fun _ => rfl) rest
theorem bit0IndHl : Statement .bit0IndHl := fun _ rest => ofTwo rfl (fun _ => rfl) rest
theorem bit0A : Statement .bit0A := fun _ rest => ofTwo rfl (fun _ => rfl) rest
theorem bit1B : Statement .bit1B := fun _ rest => ofTwo rfl (fun _ => rfl) rest
theorem bit1C : Statement .bit1C := fun _ rest => ofTwo rfl (fun _ => rfl) rest
theorem bit1D : Statement .bit1D := fun _ rest => ofTwo rfl (fun _ => rfl) rest
theorem bit1E : Statement .bit1E := fun _ rest => ofTwo rfl (fun _ => rfl) rest
theorem bit1H : Statement .bit1H := fun _ rest => ofTwo rfl (fun _ => rfl) rest
theorem bit1L : Statement .bit1L := fun _ rest => ofTwo rfl (fun _ => rfl) rest
theorem bit1IndHl : Statement .bit1IndHl := fun _ rest => ofTwo rfl (fun _ => rfl) rest
theorem bit1A : Statement .bit1A := fun _ rest => ofTwo rfl (fun _ => rfl) rest
theorem bit2B : Statement .bit2B := fun _ rest => ofTwo rfl (fun _ => rfl) rest
theorem bit2C : Statement .bit2C := fun _ rest => ofTwo rfl (fun _ => rfl) rest
theorem bit2D : Statement .bit2D := fun _ rest => ofTwo rfl (fun _ => rfl) rest
theorem bit2E : Statement .bit2E := fun _ rest => ofTwo rfl (fun _ => rfl) rest
theorem bit2H : Statement .bit2H := fun _ rest => ofTwo rfl (fun _ => rfl) rest
theorem bit2L : Statement .bit2L := fun _ rest => ofTwo rfl (fun _ => rfl) rest
theorem bit2IndHl : Statement .bit2IndHl := fun _ rest => ofTwo rfl (fun _ => rfl) rest
theorem bit2A : Statement .bit2A := fun _ rest => ofTwo rfl (fun _ => rfl) rest
theorem bit3B : Statement .bit3B := fun _ rest => ofTwo rfl (fun _ => rfl) rest
theorem bit3C : Statement .bit3C := fun _ rest => ofTwo rfl (fun _ => rfl) rest
theorem bit3D : Statement .bit3D := fun _ rest => ofTwo rfl (fun _ => rfl) rest
theorem bit3E : Statement .bit3E := fun _ rest => ofTwo rfl (fun _ => rfl) rest
theorem bit3H : Statement .bit3H := fun _ rest => ofTwo rfl (fun _ => rfl) rest
theorem bit3L : Statement .bit3L := fun _ rest => ofTwo rfl (fun _ => rfl) rest
theorem bit3IndHl : Statement .bit3IndHl := fun _ rest => ofTwo rfl (fun _ => rfl) rest
theorem bit3A : Statement .bit3A := fun _ rest => ofTwo rfl (fun _ => rfl) rest
theorem bit4B : Statement .bit4B := fun _ rest => ofTwo rfl (fun _ => rfl) rest
theorem bit4C : Statement .bit4C := fun _ rest => ofTwo rfl (fun _ => rfl) rest
theorem bit4D : Statement .bit4D := fun _ rest => ofTwo rfl (fun _ => rfl) rest
theorem bit4E : Statement .bit4E := fun _ rest => ofTwo rfl (fun _ => rfl) rest
theorem bit4H : Statement .bit4H := fun _ rest => ofTwo rfl (fun _ => rfl) rest
theorem bit4L : Statement .bit4L := fun _ rest => ofTwo rfl (fun _ => rfl) rest
theorem bit4IndHl : Statement .bit4IndHl := fun _ rest => ofTwo rfl (fun _ => rfl) rest
theorem bit4A : Statement .bit4A := fun _ rest => ofTwo rfl (fun _ => rfl) rest
theorem bit5B : Statement .bit5B := fun _ rest => ofTwo rfl (fun _ => rfl) rest
theorem bit5C : Statement .bit5C := fun _ rest => ofTwo rfl (fun _ => rfl) rest
theorem bit5D : Statement .bit5D := fun _ rest => ofTwo rfl (fun _ => rfl) rest
theorem bit5E : Statement .bit5E := fun _ rest => ofTwo rfl (fun _ => rfl) rest
theorem bit5H : Statement .bit5H := fun _ rest => ofTwo rfl (fun _ => rfl) rest
theorem bit5L : Statement .bit5L := fun _ rest => ofTwo rfl (fun _ => rfl) rest
theorem bit5IndHl : Statement .bit5IndHl := fun _ rest => ofTwo rfl (fun _ => rfl) rest
theorem bit5A : Statement .bit5A := fun _ rest => ofTwo rfl (fun _ => rfl) rest
theorem bit6B : Statement .bit6B := fun _ rest => ofTwo rfl (fun _ => rfl) rest
theorem bit6C : Statement .bit6C := fun _ rest => ofTwo rfl (fun _ => rfl) rest
theorem bit6D : Statement .bit6D := fun _ rest => ofTwo rfl (fun _ => rfl) rest
theorem bit6E : Statement .bit6E := fun _ rest => ofTwo rfl (fun _ => rfl) rest
theorem bit6H : Statement .bit6H := fun _ rest => ofTwo rfl (fun _ => rfl) rest
theorem bit6L : Statement .bit6L := fun _ rest => ofTwo rfl (fun _ => rfl) rest
theorem bit6IndHl : Statement .bit6IndHl := fun _ rest => ofTwo rfl (fun _ => rfl) rest
theorem bit6A : Statement .bit6A := fun _ rest => ofTwo rfl (fun _ => rfl) rest
theorem bit7B : Statement .bit7B := fun _ rest => ofTwo rfl (fun _ => rfl) rest
theorem bit7C : Statement .bit7C := fun _ rest => ofTwo rfl (fun _ => rfl) rest
theorem bit7D : Statement .bit7D := fun _ rest => ofTwo rfl (fun _ => rfl) rest
theorem bit7E : Statement .bit7E := fun _ rest => ofTwo rfl (fun _ => rfl) rest
theorem bit7H : Statement .bit7H := fun _ rest => ofTwo rfl (fun _ => rfl) rest
theorem bit7L : Statement .bit7L := fun _ rest => ofTwo rfl (fun _ => rfl) rest
theorem bit7IndHl : Statement .bit7IndHl := fun _ rest => ofTwo rfl (fun _ => rfl) rest
theorem bit7A : Statement .bit7A := fun _ rest => ofTwo rfl (fun _ => rfl) rest
theorem res0B : Statement .res0B := fun _ rest => ofTwo rfl (fun _ => rfl) rest
theorem res0C : Statement .res0C := fun _ rest => ofTwo rfl (fun _ => rfl) rest
theorem res0D : Statement .res0D := fun _ rest => ofTwo rfl (fun _ => rfl) rest
theorem res0E : Statement .res0E := fun _ rest => ofTwo rfl (fun _ => rfl) rest
theorem res0H : Statement .res0H := fun _ rest => ofTwo rfl (fun _ => rfl) rest
theorem res0L : Statement .res0L := fun _ rest => ofTwo rfl (fun _ => rfl) rest
theorem res0IndHl : Statement .res0IndHl := fun _ rest => ofTwo rfl (fun _ => rfl) rest
theorem res0A : Statement .res0A := fun _ rest => ofTwo rfl (fun _ => rfl) rest
theorem res1B : Statement .res1B := fun _ rest => ofTwo rfl (fun _ => rfl) rest
theorem res1C : Statement .res1C := fun _ rest => ofTwo rfl (fun _ => rfl) rest
theorem res1D : Statement .res1D := fun _ rest => ofTwo rfl (fun _ => rfl) rest
theorem res1E : Statement .res1E := fun _ rest => ofTwo rfl (fun _ => rfl) rest
theorem res1H : Statement .res1H := fun _ rest => ofTwo rfl (fun _ => rfl) rest
theorem res1L : Statement .res1L := fun _ rest => ofTwo rfl (fun _ => rfl) rest
theorem res1IndHl : Statement .res1IndHl := fun _ rest => ofTwo rfl (fun _ => rfl) rest
theorem res1A : Statement .res1A := fun _ rest => ofTwo rfl (fun _ => rfl) rest
theorem res2B : Statement .res2B := fun _ rest => ofTwo rfl (fun _ => rfl) rest
theorem res2C : Statement .res2C := fun _ rest => ofTwo rfl (fun _ => rfl) rest
theorem res2D : Statement .res2D := fun _ rest => ofTwo rfl (fun _ => rfl) rest
theorem res2E : Statement .res2E := fun _ rest => ofTwo rfl (fun _ => rfl) rest
theorem res2H : Statement .res2H := fun _ rest => ofTwo rfl (fun _ => rfl) rest
theorem res2L : Statement .res2L := fun _ rest => ofTwo rfl (fun _ => rfl) rest
theorem res2IndHl : Statement .res2IndHl := fun _ rest => ofTwo rfl (fun _ => rfl) rest
theorem res2A : Statement .res2A := fun _ rest => ofTwo rfl (fun _ => rfl) rest
theorem res3B : Statement .res3B := fun _ rest => ofTwo rfl (fun _ => rfl) rest
theorem res3C : Statement .res3C := fun _ rest => ofTwo rfl (fun _ => rfl) rest
theorem res3D : Statement .res3D := fun _ rest => ofTwo rfl (fun _ => rfl) rest
theorem res3E : Statement .res3E := fun _ rest => ofTwo rfl (fun _ => rfl) rest
theorem res3H : Statement .res3H := fun _ rest => ofTwo rfl (fun _ => rfl) rest
theorem res3L : Statement .res3L := fun _ rest => ofTwo rfl (fun _ => rfl) rest
theorem res3IndHl : Statement .res3IndHl := fun _ rest => ofTwo rfl (fun _ => rfl) rest
theorem res3A : Statement .res3A := fun _ rest => ofTwo rfl (fun _ => rfl) rest
theorem res4B : Statement .res4B := fun _ rest => ofTwo rfl (fun _ => rfl) rest
theorem res4C : Statement .res4C := fun _ rest => ofTwo rfl (fun _ => rfl) rest
theorem res4D : Statement .res4D := fun _ rest => ofTwo rfl (fun _ => rfl) rest
theorem res4E : Statement .res4E := fun _ rest => ofTwo rfl (fun _ => rfl) rest
theorem res4H : Statement .res4H := fun _ rest => ofTwo rfl (fun _ => rfl) rest
theorem res4L : Statement .res4L := fun _ rest => ofTwo rfl (fun _ => rfl) rest
theorem res4IndHl : Statement .res4IndHl := fun _ rest => ofTwo rfl (fun _ => rfl) rest
theorem res4A : Statement .res4A := fun _ rest => ofTwo rfl (fun _ => rfl) rest
theorem res5B : Statement .res5B := fun _ rest => ofTwo rfl (fun _ => rfl) rest
theorem res5C : Statement .res5C := fun _ rest => ofTwo rfl (fun _ => rfl) rest
theorem res5D : Statement .res5D := fun _ rest => ofTwo rfl (fun _ => rfl) rest
theorem res5E : Statement .res5E := fun _ rest => ofTwo rfl (fun _ => rfl) rest
theorem res5H : Statement .res5H := fun _ rest => ofTwo rfl (fun _ => rfl) rest
theorem res5L : Statement .res5L := fun _ rest => ofTwo rfl (fun _ => rfl) rest
theorem res5IndHl : Statement .res5IndHl := fun _ rest => ofTwo rfl (fun _ => rfl) rest
theorem res5A : Statement .res5A := fun _ rest => ofTwo rfl (fun _ => rfl) rest
theorem res6B : Statement .res6B := fun _ rest => ofTwo rfl (fun _ => rfl) rest
theorem res6C : Statement .res6C := fun _ rest => ofTwo rfl (fun _ => rfl) rest
theorem res6D : Statement .res6D := fun _ rest => ofTwo rfl (fun _ => rfl) rest
theorem res6E : Statement .res6E := fun _ rest => ofTwo rfl (fun _ => rfl) rest
theorem res6H : Statement .res6H := fun _ rest => ofTwo rfl (fun _ => rfl) rest
theorem res6L : Statement .res6L := fun _ rest => ofTwo rfl (fun _ => rfl) rest
theorem res6IndHl : Statement .res6IndHl := fun _ rest => ofTwo rfl (fun _ => rfl) rest
theorem res6A : Statement .res6A := fun _ rest => ofTwo rfl (fun _ => rfl) rest
theorem res7B : Statement .res7B := fun _ rest => ofTwo rfl (fun _ => rfl) rest
theorem res7C : Statement .res7C := fun _ rest => ofTwo rfl (fun _ => rfl) rest
theorem res7D : Statement .res7D := fun _ rest => ofTwo rfl (fun _ => rfl) rest
theorem res7E : Statement .res7E := fun _ rest => ofTwo rfl (fun _ => rfl) rest
theorem res7H : Statement .res7H := fun _ rest => ofTwo rfl (fun _ => rfl) rest
theorem res7L : Statement .res7L := fun _ rest => ofTwo rfl (fun _ => rfl) rest
theorem res7IndHl : Statement .res7IndHl := fun _ rest => ofTwo rfl (fun _ => rfl) rest
theorem res7A : Statement .res7A := fun _ rest => ofTwo rfl (fun _ => rfl) rest
theorem set0B : Statement .set0B := fun _ rest => ofTwo rfl (fun _ => rfl) rest
theorem set0C : Statement .set0C := fun _ rest => ofTwo rfl (fun _ => rfl) rest
theorem set0D : Statement .set0D := fun _ rest => ofTwo rfl (fun _ => rfl) rest
theorem set0E : Statement .set0E := fun _ rest => ofTwo rfl (fun _ => rfl) rest
theorem set0H : Statement .set0H := fun _ rest => ofTwo rfl (fun _ => rfl) rest
theorem set0L : Statement .set0L := fun _ rest => ofTwo rfl (fun _ => rfl) rest
theorem set0IndHl : Statement .set0IndHl := fun _ rest => ofTwo rfl (fun _ => rfl) rest
theorem set0A : Statement .set0A := fun _ rest => ofTwo rfl (fun _ => rfl) rest
theorem set1B : Statement .set1B := fun _ rest => ofTwo rfl (fun _ => rfl) rest
theorem set1C : Statement .set1C := fun _ rest => ofTwo rfl (fun _ => rfl) rest
theorem set1D : Statement .set1D := fun _ rest => ofTwo rfl (fun _ => rfl) rest
theorem set1E : Statement .set1E := fun _ rest => ofTwo rfl (fun _ => rfl) rest
theorem set1H : Statement .set1H := fun _ rest => ofTwo rfl (fun _ => rfl) rest
theorem set1L : Statement .set1L := fun _ rest => ofTwo rfl (fun _ => rfl) rest
theorem set1IndHl : Statement .set1IndHl := fun _ rest => ofTwo rfl (fun _ => rfl) rest
theorem set1A : Statement .set1A := fun _ rest => ofTwo rfl (fun _ => rfl) rest
theorem set2B : Statement .set2B := fun _ rest => ofTwo rfl (fun _ => rfl) rest
theorem set2C : Statement .set2C := fun _ rest => ofTwo rfl (fun _ => rfl) rest
theorem set2D : Statement .set2D := fun _ rest => ofTwo rfl (fun _ => rfl) rest
theorem set2E : Statement .set2E := fun _ rest => ofTwo rfl (fun _ => rfl) rest
theorem set2H : Statement .set2H := fun _ rest => ofTwo rfl (fun _ => rfl) rest
theorem set2L : Statement .set2L := fun _ rest => ofTwo rfl (fun _ => rfl) rest
theorem set2IndHl : Statement .set2IndHl := fun _ rest => ofTwo rfl (fun _ => rfl) rest
theorem set2A : Statement .set2A := fun _ rest => ofTwo rfl (fun _ => rfl) rest
theorem set3B : Statement .set3B := fun _ rest => ofTwo rfl (fun _ => rfl) rest
theorem set3C : Statement .set3C := fun _ rest => ofTwo rfl (fun _ => rfl) rest
theorem set3D : Statement .set3D := fun _ rest => ofTwo rfl (fun _ => rfl) rest
theorem set3E : Statement .set3E := fun _ rest => ofTwo rfl (fun _ => rfl) rest
theorem set3H : Statement .set3H := fun _ rest => ofTwo rfl (fun _ => rfl) rest
theorem set3L : Statement .set3L := fun _ rest => ofTwo rfl (fun _ => rfl) rest
theorem set3IndHl : Statement .set3IndHl := fun _ rest => ofTwo rfl (fun _ => rfl) rest
theorem set3A : Statement .set3A := fun _ rest => ofTwo rfl (fun _ => rfl) rest
theorem set4B : Statement .set4B := fun _ rest => ofTwo rfl (fun _ => rfl) rest
theorem set4C : Statement .set4C := fun _ rest => ofTwo rfl (fun _ => rfl) rest
theorem set4D : Statement .set4D := fun _ rest => ofTwo rfl (fun _ => rfl) rest
theorem set4E : Statement .set4E := fun _ rest => ofTwo rfl (fun _ => rfl) rest
theorem set4H : Statement .set4H := fun _ rest => ofTwo rfl (fun _ => rfl) rest
theorem set4L : Statement .set4L := fun _ rest => ofTwo rfl (fun _ => rfl) rest
theorem set4IndHl : Statement .set4IndHl := fun _ rest => ofTwo rfl (fun _ => rfl) rest
theorem set4A : Statement .set4A := fun _ rest => ofTwo rfl (fun _ => rfl) rest
theorem set5B : Statement .set5B := fun _ rest => ofTwo rfl (fun _ => rfl) rest
theorem set5C : Statement .set5C := fun _ rest => ofTwo rfl (fun _ => rfl) rest
theorem set5D : Statement .set5D := fun _ rest => ofTwo rfl (fun _ => rfl) rest
theorem set5E : Statement .set5E := fun _ rest => ofTwo rfl (fun _ => rfl) rest
theorem set5H : Statement .set5H := fun _ rest => ofTwo rfl (fun _ => rfl) rest
theorem set5L : Statement .set5L := fun _ rest => ofTwo rfl (fun _ => rfl) rest
theorem set5IndHl : Statement .set5IndHl := fun _ rest => ofTwo rfl (fun _ => rfl) rest
theorem set5A : Statement .set5A := fun _ rest => ofTwo rfl (fun _ => rfl) rest
theorem set6B : Statement .set6B := fun _ rest => ofTwo rfl (fun _ => rfl) rest
theorem set6C : Statement .set6C := fun _ rest => ofTwo rfl (fun _ => rfl) rest
theorem set6D : Statement .set6D := fun _ rest => ofTwo rfl (fun _ => rfl) rest
theorem set6E : Statement .set6E := fun _ rest => ofTwo rfl (fun _ => rfl) rest
theorem set6H : Statement .set6H := fun _ rest => ofTwo rfl (fun _ => rfl) rest
theorem set6L : Statement .set6L := fun _ rest => ofTwo rfl (fun _ => rfl) rest
theorem set6IndHl : Statement .set6IndHl := fun _ rest => ofTwo rfl (fun _ => rfl) rest
theorem set6A : Statement .set6A := fun _ rest => ofTwo rfl (fun _ => rfl) rest
theorem set7B : Statement .set7B := fun _ rest => ofTwo rfl (fun _ => rfl) rest
theorem set7C : Statement .set7C := fun _ rest => ofTwo rfl (fun _ => rfl) rest
theorem set7D : Statement .set7D := fun _ rest => ofTwo rfl (fun _ => rfl) rest
theorem set7E : Statement .set7E := fun _ rest => ofTwo rfl (fun _ => rfl) rest
theorem set7H : Statement .set7H := fun _ rest => ofTwo rfl (fun _ => rfl) rest
theorem set7L : Statement .set7L := fun _ rest => ofTwo rfl (fun _ => rfl) rest
theorem set7IndHl : Statement .set7IndHl := fun _ rest => ofTwo rfl (fun _ => rfl) rest
theorem set7A : Statement .set7A := fun _ rest => ofTwo rfl (fun _ => rfl) rest

end Sys2Proof.Laws.RoundTrip
end

