-- ==== Sys2Proof/Tests/Slice0.lean ====
section
/-! SUPPORT. The model's own tests. Expected values come from the spec: the rows of 95_test_vectors.md and the examples of
the rules named in the comments; and for each statement with hypotheses a witness that meets them. -/

namespace Sys2Proof.Tests

open Sys2Proof Sys2Proof.Machine

/-- The state of 95_test_vectors.md: `code` at 0xC000 in work RAM, PC there, F and IF zero, everything else as after
reset. -/
def boot (code : List Byte) : State :=
  { State.reset with pc := 0xC000, f := 0, iflag := 0, mem := code.zipIdx.map fun p => (0xC000 + p.2, p.1) }

/-- One step on `code` from a state made of `boot`, and a check of the next state. -/
def stepsTo (code : List Byte) (f : State → State) (p : State → Bool) : Bool :=
  match step (f (boot code)) with
  | .next t => p t
  | _ => false

/-! ## Well-formedness: an ill-formed term for each check is refused -/

theorem test_illFormed_illegal : wellFormed (.illegal 0x00) = false := by decide
theorem test_illFormed_prefixCb : wellFormed (.prefixCb 0x00) = false := by decide
theorem test_wellFormed_illegal : wellFormed (.illegal 0xD3) = true := by decide

/-! ## Decoding: words written out from R100, R103 to R109, R111, R112 -/

-- `LD r,r'` is 0b01 yyy zzz (R141): D, H.
theorem test_decode_ld_d_h : decode [0b01010100] = .ok (.ldDH, []) := by decide
-- `LD rr,nn` is 0b00 pp0 001, low byte first (R171): DE.
theorem test_decode_ld_de_nn : decode [0b00010001, 0x34, 0x12] = .ok (.ldDeNn 0x1234, []) := by decide
-- `LDH (n),A` is 0xE0 (R155).
theorem test_decode_ldh_n_a : decode [0xE0, 0x80] = .ok (.ldhIndNA 0x80, []) := by decide
-- `PUSH qq` is 0b11 pp0 101 (R175): HL.
theorem test_decode_push_hl : decode [0b11100101] = .ok (.pushHl, []) := by decide
-- `SBC A,r` is 0b10 011 zzz (R199): L.
theorem test_decode_sbc_a_l : decode [0b10011101] = .ok (.sbcAL, []) := by decide
-- `XOR n` is 0xEE (R207).
theorem test_decode_xor_n : decode [0xEE, 0x0F] = .ok (.xorN 0x0F, []) := by decide
-- `ADD HL,rr` is 0b00 pp1 001 (R231): DE.
theorem test_decode_add_hl_de : decode [0b00011001] = .ok (.addHlDe, []) := by decide
-- `RRC r` is CB, 0b00 001 zzz (R247, R112): D.
theorem test_decode_rrc_d : decode [0xCB, 0b00001010] = .ok (.rrcD, []) := by decide
-- `RES b,r` is CB, 0b10 bbb zzz (R263): bit 5 of H.
theorem test_decode_res_5_h : decode [0xCB, 0b10101100] = .ok (.res5H, []) := by decide
-- `JR cc,e` is 0b001 cc 000 (R275): NC.
theorem test_decode_jr_nc : decode [0b00110000, 0xFB] = .ok (.jrNcE 0xFB, []) := by decide
-- `RST t` is 0b11 yyy 111 (R281): 28H.
theorem test_decode_rst_28 : decode [0b11101111] = .ok (.rst28, []) := by decide
-- 0x76 is HALT, not `LD (HL),(HL)` (R110); STOP has a second byte (R292).
theorem test_decode_halt : decode [0x76] = .ok (.halt, []) := by decide
theorem test_decode_stop : decode [0x10, 0x00] = .ok (.stop 0x00, []) := by decide
-- An instruction cut short is rejected by name.
theorem test_decode_truncated : decode [0xC3, 0x34] = .error (.truncated 0xC3) := by decide

/-! ## One step of each instruction family (95_test_vectors.md sections 2.1 to 2.7) -/

-- R141
theorem test_ld_b_c : stepsTo [0x41] (fun s => { s with b := 0x11, c := 0x22, f := 0xF0 })
    (fun t => t.b == 0x22 && t.c == 0x22 && t.f == 0xF0 && t.pc == 0xC001) = true := by decide
-- R142
theorem test_ld_b_n : stepsTo [0x06, 0xFF] id
    (fun t => t.b == 0xFF && t.f == 0x00 && t.pc == 0xC002) = true := by decide
-- R143
theorem test_ld_a_hl : stepsTo [0x7E] (fun s => (({ s with h := 0xC1, l := 0x00 } : State).setOnboard 0xC100 0x5A))
    (fun t => t.a == 0x5A && t.pc == 0xC001) = true := by decide
-- R144
theorem test_ld_hl_b : stepsTo [0x70] (fun s => { s with b := 0x3C, h := 0xD0, l := 0x03 })
    (fun t => memRead t 0xD003 == 0x3C && t.pc == 0xC001) = true := by decide
-- R145
theorem test_ld_hl_n : stepsTo [0x36, 0x99] (fun s => { s with h := 0xC1, l := 0x00 })
    (fun t => memRead t 0xC100 == 0x99 && t.pc == 0xC002) = true := by decide
-- R146
theorem test_ld_a_bc : stepsTo [0x0A] (fun s => (({ s with b := 0xD0, c := 0x01 } : State).setOnboard 0xD001 0x21))
    (fun t => t.a == 0x21 && t.pc == 0xC001) = true := by decide
-- R149
theorem test_ld_de_a : stepsTo [0x12] (fun s => { s with a := 0x9C, d := 0xD0, e := 0x02 })
    (fun t => memRead t 0xD002 == 0x9C && t.pc == 0xC001) = true := by decide
-- R150
theorem test_ld_a_nn : stepsTo [0xFA, 0x00, 0xD0] (fun s => (s.setOnboard 0xD000 0x77))
    (fun t => t.a == 0x77 && t.pc == 0xC003) = true := by decide
-- R151
theorem test_ld_nn_a : stepsTo [0xEA, 0x00, 0xD0] (fun s => { s with a := 0x88 })
    (fun t => memRead t 0xD000 == 0x88 && t.pc == 0xC003) = true := by decide
-- R152
theorem test_ldh_a_c : stepsTo [0xF2] (fun s => (({ s with c := 0x81 } : State).setOnboard 0xFF81 0x34))
    (fun t => t.a == 0x34 && t.pc == 0xC001) = true := by decide
-- R153
theorem test_ldh_c_a : stepsTo [0xE2] (fun s => { s with a := 0x12, c := 0x81 })
    (fun t => memRead t 0xFF81 == 0x12 && t.pc == 0xC001) = true := by decide
-- R154
theorem test_ldh_a_n : stepsTo [0xF0, 0x80] (fun s => (s.setOnboard 0xFF80 0xCD))
    (fun t => t.a == 0xCD && t.pc == 0xC002) = true := by decide
-- R155
theorem test_ldh_n_a : stepsTo [0xE0, 0x80] (fun s => { s with a := 0xAB })
    (fun t => memRead t 0xFF80 == 0xAB && t.pc == 0xC002) = true := by decide
-- R156
theorem test_ld_hli_a : stepsTo [0x22] (fun s => { s with a := 0x56, h := 0xC1, l := 0xFF })
    (fun t => memRead t 0xC1FF == 0x56 && t.h == 0xC2 && t.l == 0x00 && t.pc == 0xC001) = true := by decide
-- R157
theorem test_ld_a_hli_wraps : stepsTo [0x2A] (fun s => { s with h := 0xFF, l := 0xFF, ie := 0x1F })
    (fun t => t.a == 0x1F && t.h == 0x00 && t.l == 0x00 && t.pc == 0xC001) = true := by decide
-- R158, on the blank cartridge, whose absent ROM bytes read 0xFF (log 5)
theorem test_ld_hld_a_to_rom : stepsTo [0x32] (fun s => { s with a := 0x77, h := 0x00, l := 0x00 })
    (fun t => t.h == 0xFF && t.l == 0xFF && memRead t 0x0000 == 0xFF && t.pc == 0xC001) = true := by decide
-- R159
theorem test_ld_a_hld : stepsTo [0x3A] (fun s => (({ s with h := 0xC0, l := 0x10 } : State).setOnboard 0xC010 0x42))
    (fun t => t.a == 0x42 && t.h == 0xC0 && t.l == 0x0F && t.pc == 0xC001) = true := by decide
-- R154, R36
theorem test_ldh_a_if : stepsTo [0xF0, 0x0F] id
    (fun t => t.a == 0xE0 && t.pc == 0xC002) = true := by decide
-- R171
theorem test_ld_sp_nn : stepsTo [0x31, 0xFE, 0xDF] id
    (fun t => t.sp == 0xDFFE && t.pc == 0xC003) = true := by decide
-- R171
theorem test_ld_hl_nn : stepsTo [0x21, 0x34, 0x12] id
    (fun t => t.h == 0x12 && t.l == 0x34 && t.pc == 0xC003) = true := by decide
-- R172
theorem test_ld_nn_sp : stepsTo [0x08, 0x00, 0xD1] (fun s => { s with sp := 0xBEEF })
    (fun t => memRead t 0xD100 == 0xEF && memRead t 0xD101 == 0xBE && t.pc == 0xC003) = true := by decide
-- R173
theorem test_ld_sp_hl : stepsTo [0xF9] (fun s => { s with h := 0xDF, l := 0xF0 })
    (fun t => t.sp == 0xDFF0 && t.pc == 0xC001) = true := by decide
-- R174
theorem test_ld_hl_sp_minus_one : stepsTo [0xF8, 0xFF] (fun s => { s with sp := 0x0000 })
    (fun t => t.h == 0xFF && t.l == 0xFF && t.f == 0x00 && t.sp == 0x0000 && t.pc == 0xC002) = true := by decide
-- R174
theorem test_ld_hl_sp_carries : stepsTo [0xF8, 0x01] (fun s => { s with sp := 0x00FF })
    (fun t => t.h == 0x01 && t.l == 0x00 && t.f == 0x30 && t.pc == 0xC002) = true := by decide
-- R175
theorem test_push_af : stepsTo [0xF5] (fun s => { s with a := 0x12, f := 0xF0, sp := 0xD002 })
    (fun t => memRead t 0xD001 == 0x12 && memRead t 0xD000 == 0xF0 && t.sp == 0xD000 && t.pc == 0xC001) = true := by decide
-- R175; log 5 for the byte of ROM
theorem test_push_bc_wraps : stepsTo [0xC5] (fun s => { s with b := 0xAA, c := 0xBB, sp := 0x0001 })
    (fun t => memRead t 0x0000 == 0xFF && t.ie == 0xBB && t.sp == 0xFFFF && t.pc == 0xC001) = true := by decide
-- R176
theorem test_pop_af_low_nibble : stepsTo [0xF1] (fun s => ((({ s with sp := 0xD000 } : State).setOnboard 0xD000 0xFF).setOnboard 0xD001 0x34))
    (fun t => t.a == 0x34 && t.f == 0xF0 && t.sp == 0xD002 && t.pc == 0xC001) = true := by decide
-- R176
theorem test_pop_bc : stepsTo [0xC1] (fun s => ((({ s with sp := 0xD000 } : State).setOnboard 0xD000 0x5F).setOnboard 0xD001 0x3C))
    (fun t => t.b == 0x3C && t.c == 0x5F && t.sp == 0xD002 && t.pc == 0xC001) = true := by decide
-- R190
theorem test_add_a_b : stepsTo [0x80] (fun s => { s with a := 0xFF, b := 0x01 })
    (fun t => t.a == 0x00 && t.f == 0xB0 && t.pc == 0xC001) = true := by decide
-- R190
theorem test_add_a_a : stepsTo [0x87] (fun s => { s with a := 0x80 })
    (fun t => t.a == 0x00 && t.f == 0x90 && t.pc == 0xC001) = true := by decide
-- R193
theorem test_adc_a_b : stepsTo [0x88] (fun s => { s with a := 0x00, b := 0xFF, f := 0x10 })
    (fun t => t.a == 0x00 && t.f == 0xB0 && t.pc == 0xC001) = true := by decide
-- R195
theorem test_adc_a_n : stepsTo [0xCE, 0x00] (fun s => { s with a := 0xFF, f := 0x10 })
    (fun t => t.a == 0x00 && t.f == 0xB0 && t.pc == 0xC002) = true := by decide
-- R196
theorem test_sub_b : stepsTo [0x90] (fun s => { s with a := 0x10, b := 0x01 })
    (fun t => t.a == 0x0F && t.f == 0x60 && t.pc == 0xC001) = true := by decide
-- R198
theorem test_sub_n : stepsTo [0xD6, 0x0F] (fun s => { s with a := 0x3E })
    (fun t => t.a == 0x2F && t.f == 0x60 && t.pc == 0xC002) = true := by decide
-- R199
theorem test_sbc_a_b : stepsTo [0x98] (fun s => { s with a := 0x00, b := 0xFF, f := 0x10 })
    (fun t => t.a == 0x00 && t.f == 0xF0 && t.pc == 0xC001) = true := by decide
-- R199
theorem test_sbc_a_a : stepsTo [0x9F] (fun s => { s with a := 0x77, f := 0x10 })
    (fun t => t.a == 0xFF && t.f == 0x70 && t.pc == 0xC001) = true := by decide
-- R202
theorem test_and_b : stepsTo [0xA0] (fun s => { s with a := 0x5A, b := 0xA5 })
    (fun t => t.a == 0x00 && t.f == 0xA0 && t.pc == 0xC001) = true := by decide
-- R204
theorem test_and_n : stepsTo [0xE6, 0x38] (fun s => { s with a := 0x5A })
    (fun t => t.a == 0x18 && t.f == 0x20 && t.pc == 0xC002) = true := by decide
-- R205
theorem test_xor_b : stepsTo [0xA8] (fun s => { s with a := 0xFF, b := 0x0F })
    (fun t => t.a == 0xF0 && t.f == 0x00 && t.pc == 0xC001) = true := by decide
-- R210
theorem test_or_n : stepsTo [0xF6, 0x03] (fun s => { s with a := 0x5A })
    (fun t => t.a == 0x5B && t.f == 0x00 && t.pc == 0xC002) = true := by decide
-- R211
theorem test_cp_b : stepsTo [0xB8] (fun s => { s with a := 0x3C, b := 0x40 })
    (fun t => t.a == 0x3C && t.f == 0x50 && t.pc == 0xC001) = true := by decide
-- R213
theorem test_cp_n : stepsTo [0xFE, 0x2F] (fun s => { s with a := 0x3C })
    (fun t => t.a == 0x3C && t.f == 0x60 && t.pc == 0xC002) = true := by decide
-- R214
theorem test_inc_b_keeps_carry : stepsTo [0x04] (fun s => { s with b := 0xFF, f := 0x10 })
    (fun t => t.b == 0x00 && t.f == 0xB0 && t.pc == 0xC001) = true := by decide
-- R215
theorem test_inc_hl_mem : stepsTo [0x34] (fun s => (({ s with h := 0xD0, l := 0x00 } : State).setOnboard 0xD000 0xFF))
    (fun t => memRead t 0xD000 == 0x00 && t.f == 0xA0 && t.pc == 0xC001) = true := by decide
-- R216
theorem test_dec_b : stepsTo [0x05] (fun s => { s with b := 0x00 })
    (fun t => t.b == 0xFF && t.f == 0x60 && t.pc == 0xC001) = true := by decide
-- R217
theorem test_dec_hl_mem : stepsTo [0x35] (fun s => (({ s with h := 0xD0, l := 0x00 } : State).setOnboard 0xD000 0x00))
    (fun t => memRead t 0xD000 == 0xFF && t.f == 0x60 && t.pc == 0xC001) = true := by decide
-- R218
theorem test_daa_both_corrections : stepsTo [0x27] (fun s => { s with a := 0x9A, f := 0x00 })
    (fun t => t.a == 0x00 && t.f == 0x90 && t.pc == 0xC001) = true := by decide
-- R218
theorem test_daa_after_subtraction : stepsTo [0x27] (fun s => { s with a := 0xFF, f := 0x70 })
    (fun t => t.a == 0x99 && t.f == 0x50 && t.pc == 0xC001) = true := by decide
-- R219
theorem test_cpl : stepsTo [0x2F] (fun s => { s with a := 0x35, f := 0x90 })
    (fun t => t.a == 0xCA && t.f == 0xF0 && t.pc == 0xC001) = true := by decide
-- R220
theorem test_scf : stepsTo [0x37] (fun s => { s with f := 0xE0 })
    (fun t => t.f == 0x90 && t.pc == 0xC001) = true := by decide
-- R221
theorem test_ccf : stepsTo [0x3F] (fun s => { s with f := 0xF0 })
    (fun t => t.f == 0x80 && t.pc == 0xC001) = true := by decide
-- R231
theorem test_add_hl_bc_keeps_z : stepsTo [0x09] (fun s => { s with h := 0xFF, l := 0xFF, b := 0x00, c := 0x01 })
    (fun t => t.h == 0x00 && t.l == 0x00 && t.f == 0x30 && t.pc == 0xC001) = true := by decide
-- R231
theorem test_add_hl_sp : stepsTo [0x39] (fun s => { s with h := 0x00, l := 0x01, sp := 0xFFFF, f := 0xC0 })
    (fun t => t.h == 0x00 && t.l == 0x00 && t.f == 0xB0 && t.pc == 0xC001) = true := by decide
-- R232
theorem test_inc_bc : stepsTo [0x03] (fun s => { s with b := 0xFF, c := 0xFF, f := 0xF0 })
    (fun t => t.b == 0x00 && t.c == 0x00 && t.f == 0xF0 && t.pc == 0xC001) = true := by decide
-- R233
theorem test_dec_sp : stepsTo [0x3B] (fun s => { s with sp := 0x0000 })
    (fun t => t.sp == 0xFFFF && t.f == 0x00 && t.pc == 0xC001) = true := by decide
-- R234
theorem test_add_sp_forces_z : stepsTo [0xE8, 0x01] (fun s => { s with sp := 0xFFFF, f := 0xC0 })
    (fun t => t.sp == 0x0000 && t.f == 0x30 && t.pc == 0xC002) = true := by decide
-- R234
theorem test_add_sp_negative : stepsTo [0xE8, 0x80] (fun s => { s with sp := 0x0080 })
    (fun t => t.sp == 0x0000 && t.f == 0x10 && t.pc == 0xC002) = true := by decide
-- R241
theorem test_rlca_z_forced : stepsTo [0x07] (fun s => { s with a := 0x00, f := 0xF0 })
    (fun t => t.a == 0x00 && t.f == 0x00 && t.pc == 0xC001) = true := by decide
-- R242
theorem test_rla : stepsTo [0x17] (fun s => { s with a := 0x80, f := 0x00 })
    (fun t => t.a == 0x00 && t.f == 0x10 && t.pc == 0xC001) = true := by decide
-- R243
theorem test_rrca : stepsTo [0x0F] (fun s => { s with a := 0x01 })
    (fun t => t.a == 0x80 && t.f == 0x10 && t.pc == 0xC001) = true := by decide
-- R244
theorem test_rra : stepsTo [0x1F] (fun s => { s with a := 0x00, f := 0x10 })
    (fun t => t.a == 0x80 && t.f == 0x00 && t.pc == 0xC001) = true := by decide
-- R245
theorem test_rlc_b : stepsTo [0xCB, 0x00] (fun s => { s with b := 0x00, f := 0x10 })
    (fun t => t.b == 0x00 && t.f == 0x80 && t.pc == 0xC002) = true := by decide
-- R246
theorem test_rlc_hl : stepsTo [0xCB, 0x06] (fun s => (({ s with h := 0xD0, l := 0x00 } : State).setOnboard 0xD000 0x85))
    (fun t => memRead t 0xD000 == 0x0B && t.f == 0x10 && t.pc == 0xC002) = true := by decide
-- R247
theorem test_rrc_c : stepsTo [0xCB, 0x09] (fun s => { s with c := 0x01 })
    (fun t => t.c == 0x80 && t.f == 0x10 && t.pc == 0xC002) = true := by decide
-- R249
theorem test_rl_d : stepsTo [0xCB, 0x12] (fun s => { s with d := 0x7F, f := 0x10 })
    (fun t => t.d == 0xFF && t.f == 0x00 && t.pc == 0xC002) = true := by decide
-- R251
theorem test_rr_e : stepsTo [0xCB, 0x1B] (fun s => { s with e := 0x01 })
    (fun t => t.e == 0x00 && t.f == 0x90 && t.pc == 0xC002) = true := by decide
-- R253
theorem test_sla_h : stepsTo [0xCB, 0x24] (fun s => { s with h := 0xFF })
    (fun t => t.h == 0xFE && t.f == 0x10 && t.pc == 0xC002) = true := by decide
-- R255
theorem test_sra_l : stepsTo [0xCB, 0x2D] (fun s => { s with l := 0x81 })
    (fun t => t.l == 0xC0 && t.f == 0x10 && t.pc == 0xC002) = true := by decide
-- R257
theorem test_swap_a : stepsTo [0xCB, 0x37] (fun s => { s with a := 0xF1, f := 0xF0 })
    (fun t => t.a == 0x1F && t.f == 0x00 && t.pc == 0xC002) = true := by decide
-- R258
theorem test_swap_hl : stepsTo [0xCB, 0x36] (fun s => (({ s with h := 0xD0, l := 0x00 } : State).setOnboard 0xD000 0x5A))
    (fun t => memRead t 0xD000 == 0xA5 && t.f == 0x00 && t.pc == 0xC002) = true := by decide
-- R259
theorem test_srl_a : stepsTo [0xCB, 0x3F] (fun s => { s with a := 0x81 })
    (fun t => t.a == 0x40 && t.f == 0x10 && t.pc == 0xC002) = true := by decide
-- R261
theorem test_bit_7_a : stepsTo [0xCB, 0x7F] (fun s => { s with a := 0x7F, f := 0x10 })
    (fun t => t.a == 0x7F && t.f == 0xB0 && t.pc == 0xC002) = true := by decide
-- R262
theorem test_bit_0_hl : stepsTo [0xCB, 0x46] (fun s => (({ s with h := 0xD0, l := 0x00, f := 0x10 } : State).setOnboard 0xD000 0x01))
    (fun t => memRead t 0xD000 == 0x01 && t.f == 0x30 && t.pc == 0xC002) = true := by decide
-- R263
theorem test_res_0_a : stepsTo [0xCB, 0x87] (fun s => { s with a := 0xFF, f := 0xF0 })
    (fun t => t.a == 0xFE && t.f == 0xF0 && t.pc == 0xC002) = true := by decide
-- R264
theorem test_res_7_hl : stepsTo [0xCB, 0xBE] (fun s => (({ s with h := 0xD0, l := 0x00 } : State).setOnboard 0xD000 0xFF))
    (fun t => memRead t 0xD000 == 0x7F && t.f == 0x00 && t.pc == 0xC002) = true := by decide
-- R265, R112
theorem test_set_1_e : stepsTo [0xCB, 0xCB] (fun s => { s with e := 0x00 })
    (fun t => t.e == 0x02 && t.pc == 0xC002) = true := by decide
-- R266
theorem test_set_7_hl : stepsTo [0xCB, 0xFE] (fun s => (({ s with h := 0xD0, l := 0x00 } : State).setOnboard 0xD000 0x00))
    (fun t => memRead t 0xD000 == 0x80 && t.f == 0x00 && t.pc == 0xC002) = true := by decide
-- R271
theorem test_jp_nn : stepsTo [0xC3, 0x34, 0x12] id
    (fun t => t.pc == 0x1234) = true := by decide
-- R272
theorem test_jp_nz_not_taken : stepsTo [0xC2, 0x34, 0x12] (fun s => { s with f := 0x80 })
    (fun t => t.budget == -12 && t.pc == 0xC003) = true := by decide
-- R272
theorem test_jp_c_taken : stepsTo [0xDA, 0x34, 0x12] (fun s => { s with f := 0x10 })
    (fun t => t.budget == -16 && t.pc == 0x1234) = true := by decide
-- R273
theorem test_jp_hl : stepsTo [0xE9] (fun s => { s with h := 0x40, l := 0x00 })
    (fun t => t.pc == 0x4000) = true := by decide
-- R274
theorem test_jr_to_itself : stepsTo [0x18, 0xFE] id
    (fun t => t.pc == 0xC000) = true := by decide
-- R274
theorem test_jr_backwards : stepsTo [0x18, 0x80] id
    (fun t => t.pc == 0xBF82) = true := by decide
-- R275
theorem test_jr_nz_not_taken : stepsTo [0x20, 0x05] (fun s => { s with f := 0x80 })
    (fun t => t.budget == -8 && t.pc == 0xC002) = true := by decide
-- R275
theorem test_jr_c_taken : stepsTo [0x38, 0xFB] (fun s => { s with f := 0x10 })
    (fun t => t.budget == -12 && t.pc == 0xBFFD) = true := by decide
-- R276
theorem test_call_nn : stepsTo [0xCD, 0x00, 0x20] (fun s => { s with sp := 0xDFFE })
    (fun t => t.sp == 0xDFFC && memRead t 0xDFFD == 0xC0 && memRead t 0xDFFC == 0x03 && t.pc == 0x2000) = true := by decide
-- R277
theorem test_call_nz_not_taken : stepsTo [0xC4, 0x00, 0x20] (fun s => { s with sp := 0xDFFE, f := 0x80 })
    (fun t => t.sp == 0xDFFE && t.budget == -12 && t.pc == 0xC003) = true := by decide
-- R278
theorem test_ret : stepsTo [0xC9] (fun s => ((({ s with sp := 0xDFFC } : State).setOnboard 0xDFFC 0x03).setOnboard 0xDFFD 0xC0))
    (fun t => t.sp == 0xDFFE && t.pc == 0xC003) = true := by decide
-- R279
theorem test_ret_nz_not_taken : stepsTo [0xC0] (fun s => { s with sp := 0xDFFC, f := 0x80 })
    (fun t => t.sp == 0xDFFC && t.budget == -8 && t.pc == 0xC001) = true := by decide
-- R279
theorem test_ret_c_taken : stepsTo [0xD8] (fun s => ((({ s with sp := 0xDFFC, f := 0x10 } : State).setOnboard 0xDFFC 0x03).setOnboard 0xDFFD 0xC0))
    (fun t => t.sp == 0xDFFE && t.budget == -20 && t.pc == 0xC003) = true := by decide
-- R280
theorem test_reti : stepsTo [0xD9] (fun s => ((({ s with sp := 0xDFFC } : State).setOnboard 0xDFFC 0x03).setOnboard 0xDFFD 0xC0))
    (fun t => t.sp == 0xDFFE && t.ime == true && t.eiInhibit == true && t.pc == 0xC003) = true := by decide
-- R281
theorem test_rst_28 : stepsTo [0xEF] (fun s => { s with sp := 0x0000 })
    (fun t => t.sp == 0xFFFE && t.ie == 0xC0 && memRead t 0xFFFE == 0x01 && t.pc == 0x0028) = true := by decide
-- R290
theorem test_nop : stepsTo [0x00] (fun s => { s with a := 0x5A, f := 0xF0 })
    (fun t => t.a == 0x5A && t.f == 0xF0 && t.budget == -4 && t.pc == 0xC001) = true := by decide
-- R291
theorem test_halt_ime_set : stepsTo [0x76] (fun s => { s with ime := true })
    (fun t => t.halted == true && t.haltBug == false && t.pc == 0xC001) = true := by decide
-- R291
theorem test_halt_ime_clear : stepsTo [0x76] id
    (fun t => t.halted == true && t.haltBug == true && t.pc == 0xC001) = true := by decide
-- R292
theorem test_stop_nop2 : stepsTo [0x10, 0x00] (fun s => { s with params := { Params.default with stopBehaviour := .nop2 } })
    (fun t => t.halted == false && t.pc == 0xC002) = true := by decide
-- R292; STOP_BEHAVIOUR of State.reset is halt_like (log 10)
theorem test_stop_halt_like : stepsTo [0x10, 0x00] id
    (fun t => t.halted == true && t.haltBug == false && t.joypadWakeOnly == true && t.pc == 0xC002) = true := by decide
-- R293
theorem test_di : stepsTo [0xF3] (fun s => { s with ime := true })
    (fun t => t.ime == false && t.eiInhibit == false && t.pc == 0xC001) = true := by decide
-- R294
theorem test_ei : stepsTo [0xFB] id
    (fun t => t.ime == true && t.eiInhibit == true && t.pc == 0xC001) = true := by decide

/-! ## Invalid opcodes, interrupts, wake, timer, bus, loader (95_test_vectors.md sections 1, 2.7 to 2.9) -/

/-- As `boot`, with a NOP at PC and SP = 0xDFFE (section 2.8). -/
def bootNop (f : State → State) : State := f { boot [0x00] with sp := 0xDFFE }

/-- One step from such a state, and a check of the next state. -/
def nopStep (f : State → State) (p : State → Bool) : Bool :=
  match step (bootNop f) with
  | .next t => p t
  | _ => false

-- R295: fault = InvalidOpcode(0xC000, 0xD3), and no later step.
theorem test_invalid_opcode : stepsTo [0xD3] id
    (fun t => t.fault == some ⟨0xC000, 0xD3⟩ && t.pc == 0xC001 &&
      match step t with | .fault r => r == .invalidOpcode 0xC000 0xD3 | _ => false) = true := by decide
-- R292: the run is refused under R7's default.
theorem test_stop_refused : (match step { boot [0x10, 0x00] with params := Params.default } with
    | .refused r => r == .stopRefused
    | _ => false) = true := by decide
-- R320, R325: the lowest armed source.
theorem test_interrupt_entry : nopStep (fun s => { s with ime := true, ie := 0x14, iflag := 0x1C })
    (fun t => t.pc == 0x0050 && t.sp == 0xDFFC && memRead t 0xDFFD == 0xC0 && memRead t 0xDFFC == 0x00 && t.ime == false
      && memRead t 0xFF0F == 0xF8 && t.budget == -20) = true := by decide
-- R322: no bit set in both masks.
theorem test_interrupt_not_armed : nopStep (fun s => { s with ime := true, ie := 0x10, iflag := 0x0F })
    (fun t => t.pc == 0xC001 && t.iflag == 0x0F) = true := by decide
-- R322, R36: bits 7 to 5 never request.
theorem test_interrupt_upper_bits : nopStep (fun s => { s with ime := true, ie := 0xFF })
    (fun t => t.pc == 0xC001) = true := by decide
-- R294, R322: the one skipped check, then the entry.
theorem test_ei_delay : nopStep (fun s => { s with ime := true, eiInhibit := true, ie := 0x01, iflag := 0x01 })
    (fun t => t.pc == 0xC001 && t.eiInhibit == false &&
      match step t with | .next u => u.pc == 0x0040 && memRead u 0xDFFC == 0x01 | _ => false) = true := by decide
-- R326, R327: the two readings of the wake test.
theorem test_wake_if_any : nopStep (fun s => { s with halted := true, iflag := 0x04 })
    (fun t => t.halted == false && t.pc == 0xC001) = true := by decide
theorem test_wake_ie_and_if :
    nopStep (fun s => { s with halted := true, iflag := 0x04, params := { Params.default with haltWake := .ieAndIf } })
      (fun t => t.halted == true && t.pc == 0xC000 && t.budget == -4) = true := by decide
-- R320, R326: woken and accepted at the same boundary.
theorem test_wake_and_enter : nopStep (fun s => { s with halted := true, ime := true, ie := 0x04, iflag := 0x04 })
    (fun t => t.halted == false && t.pc == 0x0050 && memRead t 0xDFFD == 0xC0 && t.ime == false) = true := by decide
-- R102, R291: `INC A` under the halt bug is executed with PC left on it.
theorem test_halt_bug : stepsTo [0x3C, 0x00] (fun s => { s with a := 0x00, haltBug := true })
    (fun t => t.a == 0x01 && t.pc == 0xC000 && t.haltBug == false) = true := by decide
-- R341.
theorem test_div_wraps :
    (fun t : State => (t.div, t.divTicks)) (advanceDiv 4 { State.reset with div := 0xFF, divTicks := 4 }) = (0x00, 256) := by
  decide
-- R342.
theorem test_div_write : (fun t : State => (t.div, t.divTicks, t.tima))
    (memWrite { State.reset with div := 0x7C, divTicks := 100, tima := 0x20 } 0xFF04 0x55) = (0x00, 100, 0x20) := by decide
-- R343: two periods and a rest; and the disabled counter.
theorem test_tima : (fun t : State => (t.tima, t.timaTicks))
    (advanceTima 40 { State.reset with tac := 5, tima := 0x20, timaTicks := 16 }) = (0x22, 8) := by decide
theorem test_tima_disabled : (fun t : State => (t.tima, t.timaTicks))
    (advanceTima 5000 { State.reset with tima := 0x20 }) = (0x20, 1024) := by decide
-- R344.
theorem test_tima_overflow : (fun t : State => (t.tima, t.timaTicks, memRead t 0xFF0F))
    (advanceTima 4 { State.reset with tac := 6, tima := 0xFF, tma := 0xF0, timaTicks := 4, iflag := 0 }) =
      (0xF0, 64, 0xE4) := by decide
-- R345.
theorem test_tac_write : (fun t : State => (memRead t 0xFF07, t.timaTicks))
    (memWrite { State.reset with tac := 4, timaTicks := 3 } 0xFF07 0x07) = (0xFF, 256) := by decide
-- E3: the register round trips.
theorem test_if_reads : memRead (memWrite State.reset 0xFF0F 0x00) 0xFF0F = 0xE0 := by decide
theorem test_tac_reads : memRead (memWrite State.reset 0xFF07 0x05) 0xFF07 = 0xFD := by decide
-- R70: work RAM and its echo.
theorem test_echo : memRead (memWrite State.reset 0xE123 0x5A) 0xC123 = 0x5A := by decide
-- R60, R70: nobody's storage.
theorem test_nobody : memRead (memWrite State.reset 0xFEA0 0x5A) 0xFEA0 = 0xFF := by decide
-- E5: a write to 0xA000 on a cartridge without RAM is a no-op, and a read returns 0xFF.
theorem test_no_cart_ram : memRead (memWrite State.reset 0xA000 0x55) 0xA000 = 0xFF := by decide

/-- A machine with an MBC1 cartridge of four ROM banks, the first byte of each its number (E6). -/
def mbc1 : State :=
  { State.reset with
    cart := { kind := .mbc1, romBanks := 4, ramBanks := 4, battery := false, saved := none }
    rom := [(0x0000, 0), (0x4000, 1), (0x8000, 2), (0xC000, 3)] }

-- E6: the bank-select write with nonzero low bits selects that exact bank; 0 is replaced by 1 (R384).
theorem test_mbc1_bank : memRead (memWrite mbc1 0x2100 0x03) 0x4000 = 3 ∧ memRead (memWrite mbc1 0x2100 0x00) 0x4000 = 1 := by
  decide
-- R383: RAM answers only while the latch is on.
theorem test_mbc1_latch : memRead (memWrite mbc1 0xA000 0x5A) 0xA000 = 0xFF ∧
    memRead (memWrite (memWrite mbc1 0x0000 0x0A) 0xA000 0x5A) 0xA000 = 0x5A := by decide
-- R357: a newly pressed button is latched and requests the interrupt.
theorem test_buttons : (fun t : State => (t.joyActions, t.iflag))
    (latchButtons 0xF 0xE { State.reset with iflag := 0 }) = (0xE, 0x10) := by decide
-- R357: the action group, selected by bit 5 = 0.
theorem test_joypad_read : memRead (memWrite { State.reset with joyActions := 0xE } 0xFF00 0x10) 0xFF00 = 0xDE := by decide
-- R358: a transfer with no cable attached reads 0xFF from SB and requests the interrupt.
theorem test_serial_done : (applyMove .serialDone { State.reset with iflag := 0 }).iflag = 0x08 := by decide
-- R60, R76: no register stands at 0xFF15, 0xFF1F and 0xFF27 to 0xFF2F; a read gives 0xFF and a write is ignored.
theorem test_no_register : memRead State.reset 0xFF15 = 0xFF ∧ memRead State.reset 0xFF1F = 0xFF ∧
    memRead State.reset 0xFF27 = 0xFF ∧ memRead State.reset 0xFF2F = 0xFF := by decide
theorem test_no_register_write : (memWrite State.reset 0xFF27 0x00).mem = [] ∧ (memWrite State.reset 0xFF26 0x00).mem ≠ [] := by
  exact ⟨by decide, by simp [memWrite, ownerOf, State.periphWrite, hasRegister, State.setOnboard, Memory.store, unlisted, Memory.set, State.reset, State.resetWith]⟩
-- R381: the switchable window of any controller shows bank 1 after reset.
theorem test_other_bank : (State.resetWith Params.atReset { Cart.blank with kind := .other } [(0x4000, 0x5A)] 0 []).highBank = 1 := by
  decide
-- R421: granting no ticks after EI makes no interrupt check and keeps the delay.
theorem test_emulate_inhibited : (match cpuEmulate 0 0 { State.reset with ime := true, eiInhibit := true, ie := 1 } with
    | .next t => (t.eiInhibit, t.pc)
    | _ => (false, 0)) = (true, 0x0100) := by decide
-- R351: and otherwise the check is made even with no budget.
theorem test_emulate_check : (match cpuEmulate 0 0 { State.reset with ime := true, ie := 1 } with
    | .next t => t.pc
    | _ => 0) = 0x0040 := by decide
-- R385: too short an image, and the ROM and RAM sizes of the codes.
theorem test_load_bad_size : loadCart [] none = .error .badSize := by decide
theorem test_rom_sizes : romSizeOfCode 0 = some 0x8000 ∧ romSizeOfCode 8 = some 0x800000 ∧ romSizeOfCode 9 = none := by
  decide
theorem test_ram_sizes : ramBanksOfCode 3 = some 4 ∧ ramBanksOfCode 1 = none := by decide

/-! ## Witnesses: states and operands that meet the hypotheses of the statements -/

theorem witness_DecodeOfEncode : wellFormed .ldBC = true ∧ wellFormed (.illegal 0xFD) = true := by decide
theorem witness_EncodeOfDecode : decode [0x01, 0x34, 0x12, 0x00] = .ok (.ldBcNn 0x1234, [0x00]) := by decide

/-- A machine that fetches, at code in work RAM. -/
theorem fetches_boot (code : List Byte) : Fetches (boot code) := ⟨rfl, rfl, rfl, .inr (.inl rfl)⟩

theorem witness_StepRunsDecodedInstr_normal : Fetches (boot [0x06, 0x5A, 0x00]) ∧ (boot [0x06, 0x5A, 0x00]).haltBug = false ∧
    decode [fetchRead (boot [0x06, 0x5A, 0x00]) 0xC000, fetchRead (boot [0x06, 0x5A, 0x00]) 0xC001,
      fetchRead (boot [0x06, 0x5A, 0x00]) 0xC002] = .ok (.ldBN 0x5A, [0x00]) := ⟨fetches_boot _, rfl, by decide⟩
theorem witness_StepRunsDecodedInstr_haltBug : Fetches { boot [0x06, 0x5A] with haltBug := true } ∧
    decode [fetchRead { boot [0x06, 0x5A] with haltBug := true } 0xC000,
      fetchRead { boot [0x06, 0x5A] with haltBug := true } 0xC000,
      fetchRead { boot [0x06, 0x5A] with haltBug := true } 0xC001] = .ok (.ldBN 0x06, [0x5A]) :=
  ⟨⟨rfl, rfl, rfl, .inr (.inl rfl)⟩, by decide⟩
theorem witness_FetchFastPath : (0x3FFF : Word).toNat ≤ 0x3FFF ∧ 0x3FFF < (0x4000 : Word).toNat ∧
    State.reset.cart.kind = .romOnly ∧ mbc1.cart.kind ≠ .other ∧ mbc1.bankMode = 0 := by decide

theorem witness_CpuStepRule_fault : { State.reset with fault := some ⟨0xC000, 0xD3⟩ }.schedule = [] ∧
    { State.reset with fault := some ⟨0xC000, 0xD3⟩ }.joypadWakeOnly = false := by decide
theorem witness_CpuStepRule_inhibited :
    let s := { State.reset with eiInhibit := true, halted := true }
    s.schedule = [] ∧ s.joypadWakeOnly = false ∧ s.fault = none ∧ s.eiInhibit = true ∧ s.halted = true := by decide
theorem witness_CpuStepRule_delayed :
    let s := { State.reset with eiInhibit := true }
    s.schedule = [] ∧ s.joypadWakeOnly = false ∧ s.fault = none ∧ s.eiInhibit = true ∧ s.halted = false := by decide
theorem witness_CpuStepRule_armed :
    let s := { State.reset with ime := true, ie := 0x10, iflag := 0x10, halted := true }
    s.schedule = [] ∧ s.joypadWakeOnly = false ∧ s.fault = none ∧ s.eiInhibit = false ∧ s.ime = true ∧
      ∃ i, i < 5 ∧ s.iflag.getLsbD i = true ∧ s.ie.getLsbD i = true := ⟨rfl, rfl, rfl, rfl, rfl, 4, by decide⟩
theorem witness_CpuStepRule_idle :
    let s := { State.reset with iflag := 0, halted := true }
    s.schedule = [] ∧ s.joypadWakeOnly = false ∧ s.fault = none ∧ s.eiInhibit = false ∧ s.ime = false ∧ s.halted = true ∧
      ¬ ∃ i, i < 5 ∧ s.iflag.getLsbD i = true := by
  refine ⟨rfl, rfl, rfl, rfl, rfl, rfl, ?_⟩
  simp
theorem witness_CpuStepRule_wake :
    let s := { State.reset with halted := true }
    s.schedule = [] ∧ s.joypadWakeOnly = false ∧ s.fault = none ∧ s.eiInhibit = false ∧ s.ime = false ∧ s.halted = true ∧
      s.params.haltWake = .ifAny ∧ ∃ i, i < 5 ∧ s.iflag.getLsbD i = true :=
  ⟨rfl, rfl, rfl, rfl, rfl, rfl, rfl, 0, by decide⟩
theorem witness_CpuStepRule_move :
    let s := { State.reset with schedule := [.cpu, .timer 4] }
    s.schedule = .cpu :: [.timer 4] ∧ s.joypadWakeOnly = false ∧ s.fault = none ∧ s.halted = false := by decide
theorem witness_CpuStepRule_runs : State.reset.schedule = [] ∧ State.reset.joypadWakeOnly = false ∧
    State.reset.fault = none ∧ State.reset.eiInhibit = false ∧ State.reset.ime = false ∧ State.reset.halted = false := by decide

/-- A stack on the border of work RAM and its echo. -/
def stackState : State := { State.reset with sp := 0xE001 }

theorem witness_StackRoundTrip : (∀ a ∈ [stackState.sp - 1, stackState.sp - 2], InRam a) ∧
    (∃ t, exec (.push .bc) stackState = .next t) ∧ ∃ t, exec (.callNn 0x1234) stackState = .next t := by
  refine ⟨?_, ⟨_, rfl⟩, ⟨_, rfl⟩⟩
  simp [stackState, InRam, ownerOf]
theorem witness_DecimalArithmetic : isBcd 0x99 ∧ isBcd 0x00 ∧ AluOp.sbc ∈ [AluOp.add, .adc, .sub, .sbc] := by
  simp [isBcd]
theorem witness_HaltInstruction : State.reset.params.haltBugCond = .imeClear ∧
    { State.reset with params := { Params.default with haltBugCond := .imeClearAndPending } }.params.haltBugCond =
      .imeClearAndPending := by decide
theorem witness_StopInstruction_parameters :
    { State.reset with params := Params.default }.params.stopBehaviour = .refuse ∧
    { State.reset with params := { Params.default with stopBehaviour := .nop2 } }.params.stopBehaviour = .nop2 ∧
    State.reset.params.stopBehaviour = .haltLike := by decide
/-- The halted state of STOP, with the given fields changed. -/
def stopped (f : State → State) : State := f { State.reset with halted := true, joypadWakeOnly := true }

theorem witness_StopInstruction_stopped :
    let s := stopped fun s => { s with ime := true, ie := 0x1F, iflag := 0x0F }
    CpuMoves s ∧ s.halted = true ∧ s.joypadWakeOnly = true ∧ s.eiInhibit = false ∧ s.iflag.getLsbD 4 = false :=
  ⟨⟨rfl, rfl⟩, by decide⟩
theorem witness_StopInstruction_inhibited :
    let s := stopped fun s => { s with eiInhibit := true }
    CpuMoves s ∧ s.halted = true ∧ s.joypadWakeOnly = true ∧ s.eiInhibit = true := ⟨⟨rfl, rfl⟩, by decide⟩
theorem witness_StopInstruction_woken :
    let s := stopped fun s => { s with iflag := 0x10 }
    CpuMoves s ∧ s.halted = true ∧ s.joypadWakeOnly = true ∧ s.eiInhibit = false ∧ s.iflag.getLsbD 4 = true ∧
      s.params.haltWake = .ifAny ∧ s.ime = false := ⟨⟨rfl, rfl⟩, by decide⟩
theorem witness_StopInstruction_accepted :
    let s := stopped fun s => { s with ime := true, ie := 0x10, iflag := 0x10 }
    CpuMoves s ∧ s.halted = true ∧ s.joypadWakeOnly = true ∧ s.eiInhibit = false ∧ s.iflag.getLsbD 4 = true ∧
      s.ie.getLsbD 4 = true ∧ s.ime = true := ⟨⟨rfl, rfl⟩, by decide⟩
theorem witness_InvalidOpcodeFaults : (0xFD : Byte) ∈ invalidOpcodes ∧ Fetches (boot [0xFD]) ∧
    fetchRead (boot [0xFD]) (boot [0xFD]).pc = 0xFD := ⟨by decide, fetches_boot _, by decide⟩
theorem witness_FaultedMachineStops :
    { State.reset with fault := some ⟨0xC000, 0xD3⟩ }.fault = some ⟨0xC000, 0xD3⟩ ∧
    (∀ rest, { State.reset with fault := some ⟨0xC000, 0xD3⟩ }.schedule ≠ .reset :: rest) ∧
    { State.reset with fault := some ⟨0xC000, 0xD3⟩, schedule := [.reset] }.schedule = .reset :: [] :=
  ⟨rfl, fun _ => nofun, rfl⟩
theorem witness_InterruptEntryRule :
    let s := bootNop fun s => { s with ime := true, ie := 0x1F, iflag := 0x1F }
    CpuMoves s ∧ s.eiInhibit = false ∧ s.ime = true ∧ s.ie.extractLsb' 0 5 &&& s.iflag ≠ 0 ∧ s.joypadWakeOnly = false :=
  ⟨⟨rfl, rfl⟩, by decide⟩
theorem witness_EnableDelay_ei : Fetches (boot [0xFB, 0xFB]) ∧ fetchInstr (boot [0xFB, 0xFB]) = .ei ∧
    stepsTo [0xFB, 0xFB] id (fun t => match step t with | .next u => u.eiInhibit | _ => false) = true :=
  ⟨fetches_boot _, by decide, by decide⟩
theorem witness_EnableDelay_spent : stepsTo [0xFB] id (fun t => t.eiInhibit && decide (t.budget + (4 : Nat) ≤ 0)) = true := by
  decide
theorem witness_EnableDelay_reti : Fetches (boot [0xD9]) ∧ fetchInstr (boot [0xD9]) = .reti ∧
    stepsTo [0xD9] id (fun t => t.eiInhibit) = true := ⟨fetches_boot _, by decide, by decide⟩
theorem witness_ImeWriters_set : CpuMoves (boot [0xFB]) ∧ (boot [0xFB]).ime = false ∧
    stepsTo [0xFB] id (fun t => t.ime) = true := ⟨⟨rfl, rfl⟩, rfl, by decide⟩
theorem witness_ImeWriters_cleared : CpuMoves (bootNop fun s => { s with ime := true, ie := 1, iflag := 1 }) ∧
    nopStep (fun s => { s with ime := true, ie := 1, iflag := 1 }) (fun t => t.ime == false) = true ∧
    stepsTo [0xF3] (fun s => { s with ime := true }) (fun t => t.ime == false) = true :=
  ⟨⟨rfl, rfl⟩, by decide, by decide⟩
theorem witness_AddressMap : ownerOf 0xFEA0 = .nobody ∧ ownerOf 0xFEFF = .nobody ∧ ownerOf 0xFF03 = .nobody ∧
    ownerOf 0xFF08 = .nobody ∧ ownerOf 0xFF0E = .nobody ∧ ownerOf 0xFF4C = .nobody ∧ ownerOf 0xFF7F = .nobody ∧
    ownerOf 0xE000 = .echo ∧ ownerOf 0xFDFF = .echo := by decide
theorem witness_RamReadAfterWrite : ownerOf 0x8000 = .videoRam ∧ ownerOf 0x9FFF = .videoRam ∧ ownerOf 0xC000 = .workRam ∧
    ownerOf 0xDFFF = .workRam ∧ ownerOf 0xE000 = .echo ∧ ownerOf 0xFDFF = .echo ∧ ownerOf 0xFE00 = .oam ∧
    ownerOf 0xFE9F = .oam ∧ ownerOf 0xFF80 = .highRam ∧ ownerOf 0xFFFE = .highRam ∧
    homeOf 0xE000 = homeOf 0xC000 ∧ State.reset.mem = [] := by decide
theorem witness_BusWriteFrame : ownerOf 0xBFFF = .cartRam ∧ { mbc1 with ramOn := true }.ramWindow = .ram 0 ∧
    { mbc1 with ramOn := true }.hasNibbleRam = false := by decide
theorem witness_PeripheralRegisters : ownerOf 0xFF01 = .serial ∧ ownerOf 0xFF02 = .serial ∧ ownerOf 0xFF10 = .apu ∧
    ownerOf 0xFF3F = .apu ∧ ownerOf 0xFF40 = .ppu ∧ ownerOf 0xFF4B = .ppu ∧ hasRegister 0xFF14 = true ∧
    hasRegister 0xFF15 = false ∧ hasRegister 0xFF16 = true ∧ hasRegister 0xFF26 = true ∧ hasRegister 0xFF27 = false ∧
    hasRegister 0xFF2F = false ∧ hasRegister 0xFF30 = true := by decide
theorem witness_JoypadRegister : (0x10 : Byte).getLsbD 5 = false ∧ (0x10 : Byte).getLsbD 4 = true ∧
    (0x20 : Byte).getLsbD 5 = true ∧ (0x20 : Byte).getLsbD 4 = false := by decide
theorem witness_JoypadRegister_pressed :
    let s := { State.reset with schedule := [.buttons 0xF 0x7] }
    s.schedule = .buttons 0xF 0x7 :: [] ∧ s.fault = none ∧ s.joyActions.getLsbD 3 = true ∧
      (0x7 : BitVec 4).getLsbD 3 = false ∧ s.joyDirs = 0xF := by decide
theorem witness_RomOnlyCartridge : State.reset.cart.kind = .romOnly ∧ (0x7FFF : Word).toNat ≤ 0x7FFF ∧
    State.reset.cart.ramBanks = 0 ∧ ownerOf 0xA000 = .cartRam ∧ ownerOf 0xBFFF = .cartRam := by decide
theorem witness_Mbc1Banking :
    let s := { mbc1 with ramOn := true, bankMode := 1, cart := { mbc1.cart with kind := .huc1, romBanks := 64 } }
    mbc1.cart.kind = .mbc1 ∧ mbc1.bankMode = 0 ∧ mbc1.ramOn = false ∧ s.cart.kind = .huc1 ∧ s.bankMode = 1 ∧
      32 < s.cart.romBanks ∧ s.ramOn = true ∧ 0 < s.cart.ramBanks := by decide
/-- Each clause's range of addresses is met at both ends. -/
theorem witness_Mbc1Banking_addresses : (0x1FFF : Word).toNat ≤ 0x1FFF ∧ 0x2000 ≤ (0x2000 : Word).toNat ∧
    (0x3FFF : Word).toNat ≤ 0x3FFF ∧ 0x4000 ≤ (0x4000 : Word).toNat ∧ (0x5FFF : Word).toNat ≤ 0x5FFF ∧
    0x6000 ≤ (0x6000 : Word).toNat ∧ (0x7FFF : Word).toNat ≤ 0x7FFF ∧ ownerOf 0xA000 = .cartRam := by decide
theorem witness_ConfigurationFixed : ∃ t, step (boot [0x00]) = .next t := ⟨_, rfl⟩
theorem witness_TimerAdvance :
    let s := { State.reset with tac := 5, timaTicks := 16 }
    State.reset.tac.getLsbD 2 = false ∧ s.tac.getLsbD 2 = true ∧ s.timaTicks - ((15 : Nat) : Int) > 0 ∧
      s.timaTicks - ((16 : Nat) : Int) ≤ 0 ∧ s.tima ≠ 0xFF ∧ { s with tima := 0xFF }.tima = 0xFF := by decide
theorem witness_TimerSlicesCompose :
    let s := { State.reset with tac := 5, timaTicks := 256 }
    ((255 : Nat) : Int) < timerCycles s ∧ ((256 : Nat) : Int) = timerCycles s ∧ ((256 : Nat) : Int) = s.divTicks ∧
      s.tac.getLsbD 2 = true ∧ ((256 : Nat) : Int) = s.timaTicks := by decide
theorem witness_ResetValues : ownerOf 0xC000 = .workRam ∧ ownerOf 0xFF80 = .highRam ∧ ownerOf 0x8000 = .videoRam ∧
    ownerOf 0xFE00 = .oam ∧ { Cart.blank with battery := true, saved := some [(0, 0x5A)] }.saved = some [(0, 0x5A)] ∧
    1 < Cart.blank.romBanks ∧ 0x4000 ≤ (0x4000 : Word).toNat ∧ (0x7FFF : Word).toNat ≤ 0x7FFF := by decide
theorem witness_ResetValues_saved :
    let t := State.resetWith Params.atReset { Cart.blank with ramBanks := 1, battery := true, saved := some [(0, 0x5A)] } [] 0 []
    t.ramWindow = .ram 0 ∧ Memory.get? [(0, 0x5A)] (t.cartRamOffset 0 0xA000) = some 0x5A ∧ t.hasNibbleRam = false := by decide
theorem witness_ResetProcedure : { State.reset with a := 0x77, mem := [(0xC000, 1)] }.params = State.reset.params ∧
    { State.reset with a := 0x77, mem := [(0xC000, 1)] }.cart = State.reset.cart ∧
    { State.reset with schedule := [.reset] }.schedule = .reset :: [] ∧ ownerOf 0xFF00 = .joypad ∧
    ownerOf 0xFF4B = .ppu := by decide
/-- The header bytes of a blank 32 KB ROM-only cartridge from 0x147: type and size codes, and the checksum (R385). -/
def header : List Byte := [0x00, 0x00, 0x00, 0xFF, 0xFF, 0xFF, 0xFD]

/-- The image of such a cartridge, 0xFF elsewhere. -/
def blankImage : List Byte := List.replicate 0x147 0xFF ++ header ++ List.replicate 0x7EB2 0xFF

/-- What the machine keeps of it: the bytes that are not 0xFF. -/
def blankRom : Memory := [(0x147, 0x00), (0x148, 0x00), (0x149, 0x00), (0x14D, 0xFD)]

theorem romOfBytes_padded (n m : Nat) (w : Memory) (hw : ∀ c ∈ w, c.1 < n + 7)
    (h : (header.zipIdx n).foldl (fun m p => Memory.store .rom m p.2 p.1) [] = w) :
    romOfBytes (List.replicate n 0xFF ++ header ++ List.replicate m 0xFF) = w := by
  have h1 := store_absent n 0 [] nofun
  have h3 := store_absent m (n + 7) w hw
  unfold romOfBytes
  simp only [List.zipIdx_append, List.foldl_append, List.length_append, List.length_replicate, Nat.zero_add, h1, h]
  exact h3

theorem romOfBytes_blankImage : romOfBytes blankImage = blankRom :=
  romOfBytes_padded 0x147 0x7EB2 blankRom (by decide) (by decide)

theorem length_padded (n m : Nat) : (List.replicate n (0xFF : Byte) ++ header ++ List.replicate m 0xFF).length = n + 7 + m := by
  simp only [List.length_append, List.length_replicate]
  rfl

theorem length_blankImage : blankImage.length = 0x8000 := by unfold blankImage; rw [length_padded]

theorem blankRom_size : romSizeOfCode (romImageByte blankRom 0x148) = some 0x8000 := by decide
theorem blankRom_ram : ramBanksOfCode (romImageByte blankRom 0x149) = some 0 := by decide

theorem loads_blankImage : ∃ cart, loadCart blankImage none = .ok (cart, blankRom) :=
  ⟨_, loadCart_ok romOfBytes_blankImage blankRom_size blankRom_ram length_blankImage (by decide)
    (rfl : _ = some CartKind.romOnly)⟩

theorem witness_RomOnlyCartridge_loaded : (∃ cart, loadCart blankImage none = .ok (cart, blankRom)) ∧
    romImageByte blankRom 0x147 = 0x00 ∧ romImageByte blankRom 0x149 = 0x00 := ⟨loads_blankImage, by decide⟩
theorem witness_LoaderChecks_accepted : ∃ cart rom, loadCart blankImage none = .ok (cart, rom) :=
  loads_blankImage.imp fun _ h => ⟨_, h⟩
theorem witness_LoaderChecks_badSize : ([] : List Byte).length ≠ 0x8000 * 2 ^ (([] : List Byte).getD 0x148 0xFF).toNat := by
  simp
theorem witness_ResetInv : Params.Ok Params.default ∧ ∃ s, startWith Params.default blankImage none [] = .ok s :=
  ⟨⟨by decide, by decide⟩, loads_blankImage.elim fun _ h => ⟨_, startWith_ok h⟩⟩
theorem witness_StepKeepsInv : Inv (boot [0x00]) ∧ ∃ t, step (boot [0x00]) = .next t :=
  ⟨⟨by decide, by decide, by decide, by decide, by decide, by decide, by decide, ⟨by decide, by decide⟩, nofun⟩, _, rfl⟩
theorem witness_EnvironmentFrame : { State.reset with schedule := [.request .vblank] }.schedule = .request .vblank :: [] ∧
    State.reset.fault = none ∧ Move.request .vblank ≠ .cpu ∧ Move.request .vblank ≠ .reset := by decide
theorem witness_EnvironmentFrame_device : ownerOf 0x8000 = .videoRam ∧ ownerOf 0xFE9F = .oam ∧ ownerOf 0xFF44 = .ppu ∧
    hasRegister 0xFF44 = true ∧ ownerOf 0xFF27 = .apu ∧ hasRegister 0xFF27 = false ∧ ownerOf 0xC000 = .workRam := by decide
theorem witness_EmulateSpendsBudget : (∃ t, cpuStep (boot [0x00]) = .next t) ∧
    (boot [0x00]).budget + (4 : Nat) ≤ 4 * (1 : Nat) ∧ ∃ t, cpuEmulate 1 4 (boot [0x00]) = .next t :=
  ⟨⟨_, rfl⟩, by decide, ⟨_, rfl⟩⟩
theorem witness_EmulateSpendsBudget_slice : 0 < (boot [0x00]).divTicks ∧ ∃ u, busSlice 1 4 (boot [0x00]) = .next u :=
  ⟨by decide, _, rfl⟩

end Sys2Proof.Tests
end

section
/-! PROOFS. What the CPU can do to the machine, said once: every step of it is a sequence of bus writes, changes to
the CPU's own fields, and changes to IF; and what each step costs. -/

namespace Sys2Proof.Machine

/-! ## Sequences of operations of the CPU -/

/-- `t` comes from `s` by operations of the CPU: changes to its own fields (`withCpuOf`) that keep F or write it with a
clear low nibble (R23), bus writes (R61), and changes to IF (R320). -/
inductive CpuOps (s : State) : State → Prop
  | start : CpuOps s s
  | own {t u : State} : CpuOps s t → u = withCpuOf t u → u.f = t.f ∨ u.f &&& 0x0F = 0 → CpuOps s u
  | write {t : State} (a : Word) (v : Byte) : CpuOps s t → CpuOps s (memWrite t a v)
  | request {t : State} (i : BitVec 5) : CpuOps s t → CpuOps s { t with iflag := i }

namespace CpuOps

variable {s t u : State}

theorem trans (h : CpuOps s t) (h' : CpuOps t u) : CpuOps s u := by
  induction h' with
  | start => exact h
  | own _ e hf ih => exact .own ih e hf
  | write a v _ ih => exact .write a v ih
  | request i _ ih => exact .request i ih

/-! Each shared update of the CPU's own fields is such an operation. -/

theorem spend (h : CpuOps s t) (k : Int) : CpuOps s (t.spend k) := .own h rfl (.inl rfl)

theorem setFlags (h : CpuOps s t) (z n hc cy : Bool) : CpuOps s (t.setFlags z n hc cy) :=
  .own h rfl (.inr (mkF_low z n hc cy))

theorem setReg8 (h : CpuOps s t) (r : Reg8) (v : Byte) : CpuOps s (t.setReg8 r v) :=
  .own h (by cases r <;> rfl) (.inl (setReg8_f t r v))

theorem setReg16 (h : CpuOps s t) (p : Reg16) (v : Word) : CpuOps s (t.setReg16 p v) :=
  .own h (by cases p <;> rfl) (.inl (setReg16_f t p v))

theorem setStackReg (h : CpuOps s t) (q : StackReg) (v : Word) : CpuOps s (t.setStackReg q v) := by
  cases q with
  | bc | de | hl => exact .own h rfl (.inl rfl)
  | af =>
    obtain ⟨-, -, -, -, low⟩ := and_F0_bits (lo8 v)
    exact .own h rfl (.inr low)

theorem push16 (h : CpuOps s t) (v : Word) : CpuOps s (push16 t v) :=
  .write _ _ (.own (.write _ _ (.own (u := { t with sp := t.sp - 1 }) h rfl (.inl rfl))) rfl (.inl rfl))

theorem wakeUp (h : CpuOps s t) : CpuOps s (wakeUp t) := by
  unfold Machine.wakeUp
  split
  · exact .own h rfl (.inl rfl)
  · exact h

theorem interruptEntry (h : CpuOps s t) : CpuOps s (interruptEntry t) :=
  .request _ (.own (.push16 (.own (u := { t with ime := false, halted := false, joypadWakeOnly := false }) h rfl
    (.inl rfl)) _) rfl (.inl rfl))

/-! What every such sequence keeps. -/

/-- The CPU reaches neither the configuration nor the divider's tick count (R41, R342). -/
theorem config (h : CpuOps s t) :
    t.rom = s.rom ∧ t.cart = s.cart ∧ t.params = s.params ∧ t.divTicks = s.divTicks := by
  induction h with
  | start => exact ⟨rfl, rfl, rfl, rfl⟩
  | own _ e _ ih => rw [e]; exact ih
  | write a v _ ih => simpa using ih
  | request i _ ih => exact ih

theorem inv (h : CpuOps s t) (hi : Inv s) : Inv t := by
  induction h with
  | start => exact hi
  | own _ e hf ih =>
    obtain ⟨flagsLow, memWf, cartRamWf, romWf, bankLoPos, divPos, timaPos, paramsOk, cartOk⟩ := ih
    refine ⟨hf.elim (fun e => e ▸ flagsLow) id, ?_, ?_, ?_, ?_, ?_, ?_, ?_, ?_⟩ <;> rw [e] <;> assumption
  | @write t a v _ ih =>
    exact ⟨by simpa using ih.flagsLow, memWrite_mem_wf t a v ih.memWf, memWrite_cartRam_wf t a v ih.cartRamWf,
      by simpa using ih.romWf, memWrite_bankLo t a v ih.bankLoPos, by simpa using ih.divPos,
      memWrite_timaTicks t a v ih.timaPos, by simpa using ih.paramsOk, by simpa using ih.cartOk⟩
  | request i _ ih => exact { ih with }

end CpuOps

/-! ## What an instruction does -/

/-- What one step of the CPU does: operations of the CPU, at one of the tick costs of R431 unless it records a fault. -/
structure CpuEffect (s t : State) : Prop where
  ops : CpuOps s t
  ticks : t.fault ≠ none ∨ ∃ k, Ticks k ∧ t.budget = s.budget - k

/-- If the outcome is a next state, `Q` holds of it. -/
def IfNext (Q : State → Prop) (r : Res) : Prop := ∀ t, r = .next t → Q t

theorem ifNext_next {Q : State → Prop} {t : State} (h : Q t) : IfNext Q (.next t) := by
  intro u e
  cases e
  exact h

variable {s t : State} {k : Int}

/-- Operations that leave the budget alone, and then the cost. -/
theorem spends (h : CpuOps s t) (hb : t.budget = s.budget) (hk : Ticks k) : IfNext (CpuEffect s) (.next (t.spend k)) :=
  ifNext_next ⟨h.spend k, .inr ⟨k, hk, congrArg (· - k) hb⟩⟩

theorem push16_budget (v : Word) : (push16 s v).budget = s.budget := by simp [push16]

theorem aluA_effect (op : AluOp) (v : Byte) (hk : Ticks k) : IfNext (CpuEffect s) (aluA op v k s) := by
  unfold aluA
  dsimp only
  split
  · exact spends (.setFlags .start _ _ _ _) rfl hk
  · exact spends (.setFlags (.setReg8 .start .a _) _ _ _ _) rfl hk

theorem stopOp_effect : IfNext (CpuEffect s) (stopOp s) := by
  unfold stopOp
  split
  · rintro _ ⟨⟩
  · exact spends .start rfl ticks4
  · exact spends (.own .start rfl (.inl rfl)) rfl ticks4

/-- Every shared operation of the meanings has the effect of a CPU step. -/
theorem execForms_effect (s : State) : ExecForms s (IfNext (CpuEffect s)) where
  load r v _ := spends (.setReg8 .start r v) (setReg8_budget s r v)
  store a v _ := spends (.write a v .start) (memWrite_budget s a v)
  storeHl _ := spends (.own (.write _ _ .start) rfl (.inl rfl)) (memWrite_budget s _ _) ticks8
  loadHl _ := spends (.own .start rfl (.inl rfl)) rfl ticks8
  pair p v := spends (.setReg16 .start p v) (setReg16_budget s p v) ticks12
  stepPair p v := spends (.setReg16 .start p v) (setReg16_budget s p v) ticks8
  spHl := spends (.own .start rfl (.inl rfl)) rfl ticks8
  storeSp _ := spends (.write _ _ (.write _ _ .start)) (by simp) ticks20
  hlSp _ := spends (.setFlags (.setReg16 .start .hl _) _ _ _ _) rfl ticks12
  addSp _ := spends (.setFlags (.setReg16 .start .sp _) _ _ _ _) rfl ticks16
  addHl _ := spends (.setFlags (.setReg16 .start .hl _) _ _ _ _) rfl ticks8
  push _ := spends (.push16 .start _) (push16_budget _) ticks16
  pop q := spends (.setStackReg (.setReg16 .start .sp _) q _) (setStackReg_budget _ q _) ticks12
  alu op v _ := aluA_effect op v
  updReg r o _ := spends (.setFlags (.setReg8 .start r _) _ _ _ _) (setReg8_budget s r _)
  updMem o _ := spends (.setFlags (.write _ _ .start) _ _ _ _) (memWrite_budget s _ _)
  cpl := spends (.setFlags (.setReg8 .start .a _) _ _ _ _) rfl ticks4
  scf := spends (.setFlags .start _ _ _ _) rfl ticks4
  ccf := spends (.setFlags .start _ _ _ _) rfl ticks4
  rotA _ := spends (.setFlags (.setReg8 .start .a _) _ _ _ _) rfl ticks4
  rotReg _ r := spends (.setFlags (.setReg8 .start r _) _ _ _ _) (setReg8_budget s r _) ticks8
  rotMem _ := spends (.setFlags (.write _ _ .start) _ _ _ _) (memWrite_budget s _ _) ticks16
  bit _ _ _ := spends (.setFlags .start _ _ _ _) rfl
  resReg _ r := spends (.setReg8 .start r _) (setReg8_budget s r _) ticks8
  resMem _ := spends (.write _ _ .start) (memWrite_budget s _ _) ticks16
  setReg _ r := spends (.setReg8 .start r _) (setReg8_budget s r _) ticks8
  setMem _ := spends (.write _ _ .start) (memWrite_budget s _ _) ticks16
  jump _ _ := spends (.own .start rfl (.inl rfl)) rfl
  call _ _ := spends (.own (.push16 .start _) rfl (.inl rfl)) (push16_budget s.pc)
  ret _ := spends (.own .start rfl (.inl rfl)) rfl
  reti := spends (.own .start rfl (.inl rfl)) rfl ticks16
  idle _ := spends .start rfl
  halt := spends (.own .start rfl (.inl rfl)) rfl ticks4
  stop := stopOp_effect
  illegal _ := ifNext_next ⟨.own .start rfl (.inl rfl), .inl (Option.some_ne_none _)⟩
  di := spends (.own .start rfl (.inl rfl)) rfl ticks4
  ei := spends (.own .start rfl (.inl rfl)) rfl ticks4

theorem exec_effect (i : Instr) (h : exec i s = .next t) : CpuEffect s t := exec_of_forms (execForms_effect s) i t h

/-! ## What a step of the CPU does -/

theorem wakeUp_budget (s : State) : (wakeUp s).budget = s.budget := by rw [wakeUp_eq]

theorem interruptEntry_budget (s : State) : (interruptEntry s).budget = s.budget := by simp [interruptEntry_eq]

theorem interruptCheck_entered_effect (h : interruptCheck s = .entered t) : CpuEffect s t := by
  obtain ⟨-, -, rfl⟩ := interruptCheck_entered s h
  exact ⟨.spend (.interruptEntry (.wakeUp .start)) 20,
    .inr ⟨20, ticks20, by rw [spend_budget, interruptEntry_budget, wakeUp_budget]⟩⟩

theorem interruptCheck_goOn_ops (h : interruptCheck s = .goOn t) : CpuOps s t ∧ t.budget = s.budget := by
  obtain ⟨-, rfl⟩ | ⟨-, -, rfl⟩ := interruptCheck_goOn s h
  · exact ⟨.own .start rfl (.inl rfl), rfl⟩
  · exact ⟨.wakeUp .start, wakeUp_budget s⟩

/-- Every step of the CPU is operations of the CPU at one of the tick costs, or records a fault (R322, R431). -/
theorem cpuStep_effect (h : cpuStep s = .next t) : CpuEffect s t := by
  obtain ⟨-, ⟨u, hc, rfl⟩ | ⟨u, hc, -, rfl⟩ | ⟨u, hc, -, he⟩⟩ := cpuStep_cases s h
  · exact interruptCheck_entered_effect hc
  · obtain ⟨ops, hb⟩ := interruptCheck_goOn_ops hc
    exact spends ops hb ticks4 _ rfl
  · obtain ⟨ops, hb⟩ := interruptCheck_goOn_ops hc
    have fetched : CpuOps s (afterFetch u) := .own ops rfl (.inl rfl)
    obtain ⟨executed, ticks⟩ := exec_effect _ he
    exact ⟨fetched.trans executed, hb ▸ ticks⟩

end Sys2Proof.Machine
end

section
/-! PROOFS. What the other agents and the loader do to the machine, and the statements about every step of the machine:
the invariant and the configuration. -/

namespace Sys2Proof.Machine

/-! ## Reset and the loader -/

/-- The reset state of a machine whose configuration is in order (R42, R401). -/
theorem resetWith_inv {p : Params} {cart : Cart} {rom : Memory} (hp : Params.Ok p) (hc : Cart.Ok cart)
    (hr : Memory.wf .rom rom = true) (draw : Nat) (sched : List Move) : Inv (State.resetWith p cart rom draw sched) where
  flagsLow := by
    obtain ⟨-, -, -, -, low⟩ := and_F0_bits (p.resetAF.extractLsb' 0 8)
    exact low
  memWf := rfl
  cartRamWf := by
    show Memory.wf .cartRam (if cart.battery then cart.saved.getD [] else []) = true
    split
    · cases hs : cart.saved with
      | none => rfl
      | some m => exact hc m hs
    · rfl
  romWf := hr
  bankLoPos := show (1 : BitVec 5) ≠ 0 by decide
  divPos := hp.1
  timaPos := hp.2
  paramsOk := hp
  cartOk := hc

theorem hostReset_inv {s : State} (h : Inv s) : Inv (hostReset s) :=
  resetWith_inv h.paramsOk h.cartOk h.romWf _ _

/-- Storing bytes one after another keeps the canonical form. -/
theorem foldl_store_wf (cells : List (Byte × Nat)) {m : Memory} (hm : Memory.wf .rom m = true) :
    Memory.wf .rom (cells.foldl (fun m p => Memory.store .rom m p.2 p.1) m) = true := by
  induction cells generalizing m with
  | nil => exact hm
  | cons c cells ih => exact ih (Memory.wf_store hm _ _)

/-- A ROM image is in canonical form, whatever its bytes. -/
theorem romOfBytes_wf (image : List Byte) : Memory.wf .rom (romOfBytes image) = true :=
  foldl_store_wf image.zipIdx (m := []) rfl

/-- An image that is accepted has passed every check, and its cartridge is the one its header selects (R385). -/
theorem loadCart_eq_ok {image : List Byte} {saved : Option Memory} {cart : Cart} {rom : Memory}
    (h : loadCart image saved = .ok (cart, rom)) :
    rom = romOfBytes image ∧ ∃ size ramBanks kind,
      romSizeOfCode (romImageByte rom 0x148) = some size ∧ ramBanksOfCode (romImageByte rom 0x149) = some ramBanks ∧
      image.length = size ∧ headerChecksum rom = romImageByte rom 0x14D ∧
      kindOfType (romImageByte rom 0x147) = some kind ∧
      cart = { kind := kind, romBanks := size / 0x4000, ramBanks := ramBanks
               battery := Config.cartBattery (romImageByte rom 0x147), saved := saved
               nibbleRam := Config.cartNibbleRam (romImageByte rom 0x147) } := by
  unfold loadCart at h
  dsimp only at h
  split at h
  · split at h
    · cases h
    · split at h
      · cases h
      · split at h
        · cases h
        · cases h
          exact ⟨rfl, _, _, _, ‹_›, ‹_›, not_not.1 ‹_›, not_not.1 ‹_›, ‹_›, rfl⟩
  · cases h

theorem startWith_eq_ok {p : Params} {image : List Byte} {saved : Option Memory} {sched : List Move} {s : State}
    (h : startWith p image saved sched = .ok s) :
    ∃ cart rom, loadCart image saved = .ok (cart, rom) ∧ s = State.resetWith p cart rom 0 sched := by
  unfold startWith at h
  split at h
  · cases h
    exact ⟨_, _, ‹_›, rfl⟩
  · cases h

/-- Settles O56: the reset state meets the invariant whatever the machine, and a loaded ROM image is canonical. -/
theorem resetInv : Obligations.ResetInv := by
  refine ⟨resetWith_inv ⟨by decide, by decide⟩ (by rintro _ ⟨⟩) rfl _ _, ?_⟩
  intro p image saved sched s hp hsaved h
  obtain ⟨cart, rom, hload, rfl⟩ := startWith_eq_ok h
  obtain ⟨rfl, _, _, _, -, -, -, -, -, rfl⟩ := loadCart_eq_ok hload
  refine resetWith_inv hp ?_ (romOfBytes_wf image) _ _
  exact hsaved

/-! ## The moves of the other agents -/

theorem setOnboard_inv {s : State} (n : Nat) (v : Byte) (h : Inv s) : Inv (s.setOnboard n v) :=
  { h with memWf := Memory.wf_store h.memWf n v }

theorem advanceTimer_inv {s : State} (n : Nat) (h : Inv s) : Inv (advanceTimer n s) := by
  obtain ⟨div, tima⟩ := advanceTimer_pos n s h.timaPos
  rw [advanceTimer_frame]
  exact { h with divPos := div, timaPos := tima }

theorem deviceChange_inv {s : State} (addr : Word) (v : Byte) (h : Inv s) : Inv (deviceChange addr v s) := by
  obtain e | ⟨e, -⟩ := deviceChange_cases addr v s
  · rwa [e]
  · rw [e]
    exact setOnboard_inv _ _ h

theorem latchButtons_inv {s : State} (dirs actions : BitVec 4) (h : Inv s) : Inv (latchButtons dirs actions s) := by
  rw [latchButtons_eq]
  exact { h with }

/-- Every move of the environment and of the host keeps the invariant. -/
theorem applyMove_inv {s : State} (m : Move) (h : Inv s) : Inv (applyMove m s) := by
  cases m with
  | cpu => exact h
  | request | clock | emulate => exact { h with }
  | timer n => exact advanceTimer_inv n h
  | device addr v => exact deviceChange_inv addr v h
  | buttons dirs actions => exact latchButtons_inv dirs actions h
  | serialDone => exact { setOnboard_inv 0xFF01 0xFF h with }
  | reset => exact hostReset_inv h

/-- No move reaches the configuration (R41). -/
theorem applyMove_config (m : Move) (s : State) :
    (applyMove m s).rom = s.rom ∧ (applyMove m s).cart = s.cart ∧ (applyMove m s).params = s.params := by
  cases m with
  | cpu | request | clock | emulate | serialDone | reset => exact ⟨rfl, rfl, rfl⟩
  | timer n =>
    simp only [applyMove]
    rw [advanceTimer_frame]
    exact ⟨rfl, rfl, rfl⟩
  | device addr v =>
    simp only [applyMove]
    obtain e | ⟨e, -⟩ := deviceChange_cases addr v s <;> rw [e] <;> exact ⟨rfl, rfl, rfl⟩
  | buttons dirs actions =>
    simp only [applyMove]
    rw [latchButtons_eq]
    exact ⟨rfl, rfl, rfl⟩

/-! ## Every step of the machine -/

/-- Settles O57: a step is operations of the CPU, the host's reset, or a move of another agent, and each keeps the
invariant. -/
theorem stepKeepsInv : Obligations.StepKeepsInv := by
  intro s t hi h
  obtain ⟨-, hc⟩ | ⟨rest, -, hc⟩ | ⟨rest, -, rfl⟩ | ⟨m, rest, -, -, -, -, rfl⟩ := step_cases s h
  · exact (cpuStep_effect hc).ops.inv hi
  · exact (cpuStep_effect hc).ops.inv { hi with }
  · exact hostReset_inv { hi with }
  · exact applyMove_inv m { hi with }

/-- Settles O50: neither the CPU, nor the host's reset, nor another agent reaches the configuration. -/
theorem configurationFixed : Obligations.ConfigurationFixed := by
  intro s t h
  obtain ⟨-, hc⟩ | ⟨rest, -, hc⟩ | ⟨rest, -, rfl⟩ | ⟨m, rest, -, -, -, -, rfl⟩ := step_cases s h
  · obtain ⟨rom, cart, params, -⟩ := (cpuStep_effect hc).ops.config
    exact ⟨rom, cart, params⟩
  · obtain ⟨rom, cart, params, -⟩ := (cpuStep_effect hc).ops.config
    exact ⟨rom, cart, params⟩
  · exact ⟨rfl, rfl, rfl⟩
  · exact applyMove_config m _

end Sys2Proof.Machine
end

section
/-! PROOFS. The scheduling loop of R350 and R351: that it ends, what it leaves of the budget, and what a slice does to the
divider. -/

namespace Sys2Proof.Machine

section
variable {s t : State}

/-! ## The budget -/

/-- The costs of R431 are one to six machine cycles of 4 ticks. -/
theorem ticks_eq_four_mul {k : Int} (h : Ticks k) : ∃ c : Int, 1 ≤ c ∧ c ≤ 6 ∧ k = 4 * c := by
  refine ⟨k / 4, ?_⟩
  unfold Ticks at h
  omega

/-- A step of the CPU spends 4 to 24 ticks, or records a fault. -/
theorem cpuStep_budget (h : cpuStep s = .next t) :
    t.fault ≠ none ∨ ∃ c : Int, 1 ≤ c ∧ c ≤ 6 ∧ t.budget = s.budget - 4 * c := by
  obtain hf | ⟨k, hk, hb⟩ := (cpuStep_effect h).ticks
  · exact .inl hf
  · obtain ⟨c, h1, h6, rfl⟩ := ticks_eq_four_mul hk
    exact .inr ⟨c, h1, h6, hb⟩

/-- The loop stops where it is once a fault is recorded. -/
theorem runBudget_of_fault (fuel : Nat) (h : s.fault ≠ none) : runBudget fuel s = .next s := by
  cases fuel with
  | zero => rfl
  | succ fuel => exact if_neg fun hs => h hs.2

/-- One round of the loop: it runs a step of the CPU and goes on, or it ends (R351). -/
theorem runBudget_succ {fuel : Nat} (h : runBudget (fuel + 1) s = .next t) :
    (0 < s.budget ∧ ∃ u, cpuStep s = .next u ∧ runBudget fuel u = .next t) ∨
    ((s.fault ≠ none ∨ s.budget ≤ 0) ∧ t = s) := by
  unfold runBudget at h
  split at h
  · rename_i hs
    split at h
    · exact .inl ⟨hs.1, _, ‹_›, h⟩
    · cases h
    · cases h
  · rename_i hs
    cases h
    refine .inr ⟨?_, rfl⟩
    by_cases hf : s.fault = none
    · exact .inr (not_lt.1 fun hb => hs ⟨hb, hf⟩)
    · exact .inl hf

theorem runBudget_ops (fuel : Nat) (h : runBudget fuel s = .next t) : CpuOps s t := by
  induction fuel generalizing s with
  | zero =>
    cases h
    exact .start
  | succ fuel ih =>
    obtain ⟨-, u, hu, ht⟩ | ⟨-, rfl⟩ := runBudget_succ h
    · exact (cpuStep_effect hu).ops.trans (ih ht)
    · exact .start

/-- With fuel for the budget at 4 ticks a step, the loop ends with the budget spent, overdrawn by less than the dearest
step, or in a fault. -/
theorem runBudget_budget (fuel : Nat) (hfuel : s.budget ≤ 4 * fuel) (h : runBudget fuel s = .next t) :
    t.fault ≠ none ∨ t.budget ≤ 0 ∧ (-24 < s.budget → -24 < t.budget) := by
  induction fuel generalizing s with
  | zero =>
    cases h
    exact .inr ⟨by simpa using hfuel, id⟩
  | succ fuel ih =>
    obtain ⟨hpos, u, hu, ht⟩ | ⟨hend, rfl⟩ := runBudget_succ h
    · obtain hf | ⟨c, h1, h6, hb⟩ := cpuStep_budget hu
      · rw [runBudget_of_fault fuel hf] at ht
        cases ht
        exact .inl hf
      · push_cast at hfuel
        obtain hf | ⟨hle, hgt⟩ := ih (by omega) ht
        · exact .inl hf
        · exact .inr ⟨hle, fun _ => hgt (by omega)⟩
    · exact hend.imp_right fun hle => ⟨hle, id⟩

/-- The check alone enters an interrupt at 20 ticks, or leaves the budget as it is. -/
theorem checkOnly_ops (s : State) : CpuOps s (checkOnly s) ∧ (checkOnly s).budget ≤ s.budget := by
  unfold checkOnly
  split
  · exact ⟨.start, le_rfl⟩
  · split
    · exact ⟨.start, le_rfl⟩
    · split
      · rename_i u hc
        obtain ⟨-, -, rfl⟩ := interruptCheck_entered s hc
        refine ⟨(interruptCheck_entered_effect hc).ops, ?_⟩
        rw [spend_budget, interruptEntry_budget, wakeUp_budget]
        omega
      · obtain ⟨ops, hb⟩ := interruptCheck_goOn_ops ‹_›
        exact ⟨ops, hb.le⟩

/-- A call of `emulate` grants the ticks, then runs the loop or makes the check alone (R351). -/
theorem cpuEmulate_cases {fuel n : Nat} (h : cpuEmulate fuel n s = .next t) :
    (0 < s.budget + n ∧ runBudget fuel { s with budget := s.budget + n } = .next t) ∨
    (s.budget + n ≤ 0 ∧ t = checkOnly { s with budget := s.budget + n }) := by
  unfold cpuEmulate at h
  dsimp only at h
  split at h
  · exact .inl ⟨‹_›, h⟩
  · cases h
    exact .inr ⟨not_lt.1 ‹_›, rfl⟩

theorem cpuEmulate_ops {fuel n : Nat} (h : cpuEmulate fuel n s = .next t) : CpuOps s t := by
  have granted : CpuOps s { s with budget := s.budget + n } := .own .start rfl (.inl rfl)
  obtain ⟨-, hr⟩ | ⟨-, rfl⟩ := cpuEmulate_cases h
  · exact granted.trans (runBudget_ops fuel hr)
  · exact granted.trans (checkOnly_ops _).1

theorem cpuEmulate_budget {fuel n : Nat} (hfuel : s.budget + n ≤ 4 * fuel) (h : cpuEmulate fuel n s = .next t) :
    t.fault ≠ none ∨ t.budget ≤ 0 ∧ (0 < s.budget + n → -24 < t.budget) := by
  obtain ⟨hpos, hr⟩ | ⟨hle, rfl⟩ := cpuEmulate_cases h
  · refine (runBudget_budget fuel hfuel hr).imp_right fun ⟨hle, hgt⟩ => ⟨hle, fun _ => hgt ?_⟩
    show (-24 : Int) < s.budget + n
    omega
  · obtain ⟨-, hb⟩ := checkOnly_ops { s with budget := s.budget + n }
    exact .inr ⟨hb.trans hle, fun hpos => absurd hle (not_le.2 hpos)⟩

/-! ## A slice of the bus -/

theorem busSlice_cases {fuel others : Nat} {u : State} (h : busSlice fuel others s = .next u) :
    ∃ t, cpuEmulate fuel (min others (timerCycles s).toNat) s = .next t ∧
      u = advanceTimer (min others (timerCycles s).toNat) t := by
  unfold busSlice at h
  dsimp only at h
  split at h
  · cases h
    exact ⟨_, ‹_›, rfl⟩
  · cases h
  · cases h

/-- The timer's deadline is no later than the divider's (R347). -/
theorem timerCycles_le (s : State) : timerCycles s ≤ s.divTicks := by
  unfold timerCycles
  split
  · exact min_le_left _ _
  · exact le_rfl

/-- The programmable counter does not touch the divider (R340). -/
theorem advanceTima_div (n : Nat) (s : State) : (advanceTima n s).div = s.div := by
  unfold advanceTima
  split
  · dsimp only
    rw [timaIncrements_frame]
  · rfl

/-- Up to the divider's deadline: it steps once at the deadline and not before (R341). -/
theorem advanceTimer_div (n : Nat) (s : State) (h : (n : Int) ≤ s.divTicks) :
    (advanceTimer n s).div = if (n : Int) = s.divTicks then s.div + 1 else s.div := by
  unfold advanceTimer
  rw [advanceTima_div]
  simp only [advanceDiv]
  split
  · have once : periodsElapsed s.divTicks n 256 = 1 := by
      rw [periodsElapsed_succ (by decide) (by omega), periodsElapsed_zero 256 (by push_cast; omega)]
    rw [once]
    rfl
  · rw [periodsElapsed_zero 256 (by omega)]
    simp

end

/-- Settles O60: each step costs at least 4 ticks, so the loop ends; it overdraws by less than the dearest step; and a
slice is no longer than the divider's deadline, which the CPU cannot move. -/
theorem emulateSpendsBudget : Obligations.EmulateSpendsBudget := by
  refine ⟨fun s t h => cpuStep_budget h, fun fuel n s t hfuel h => cpuEmulate_budget hfuel h, ?_⟩
  intro fuel others s u hpos h
  obtain ⟨t, ht, rfl⟩ := busSlice_cases h
  obtain ⟨-, -, -, hdiv⟩ := (cpuEmulate_ops ht).config
  have deadline : ((min others (timerCycles s).toNat : Nat) : Int) ≤ t.divTicks := by
    have := timerCycles_le s
    omega
  exact ⟨_, t, rfl, ht, rfl, hdiv, hdiv ▸ advanceTimer_div _ t deadline⟩

end Sys2Proof.Machine
end

section
/-! PROOFS. The statements about the registers, the interrupt controller, the faulted machine and the reset values. -/

namespace Sys2Proof.Machine

/-! ## Register pairs -/

theorem toNat_af (s : State) : s.af.toNat = s.a.toNat * 256 + s.f.toNat / 16 * 16 := by
  rw [State.af, toNat_mkWord, State.readF, toNat_and_F0]

/-- Settles O12: a pair is `mkWord` of its registers, and AF passes through the mask 0xF0. -/
theorem registerPairs : Obligations.RegisterPairs := by
  intro s v
  have pair (hi lo : Byte) : (mkWord hi lo).toNat = 256 * hi.toNat + lo.toNat := by rw [toNat_mkWord, mul_comm]
  have low : (s.setAf v).f.toNat = v.toNat % 256 / 16 * 16 := by rw [setAf_f, toNat_and_F0, toNat_lo8]
  refine ⟨pair _ _, pair _ _, pair _ _, ?_, rfl, rfl, rfl, bc_setBc s v, de_setDe s v, hl_setHl s v, rfl, ?_, ?_⟩
  · rw [toNat_af, mul_comm]
  · rw [toNat_af, low, setAf_a, toNat_hi8]
    omega
  · omega

/-! ## The faulted machine -/

theorem cpuStep_of_fault {s : State} {f : InvalidOp} (h : s.fault = some f) :
    cpuStep s = .fault (.invalidOpcode f.pc f.op) := by
  unfold cpuStep
  rw [h]

/-- Settles O38: every move but `reset()` looks at the recorded fault, and `reset()` clears it. -/
theorem faultedMachineStops : Obligations.FaultedMachineStops := by
  intro s f hf
  unfold step machineStep
  refine ⟨fun hreset => ?_, fun rest hs => ?_⟩
  · split
    case h_1 => exact cpuStep_of_fault hf
    case h_2 => exact cpuStep_of_fault hf
    case h_3 rest hs => exact absurd hs (hreset rest)
    case h_4 => rw [hf]
  · rw [hs]
    exact ⟨_, rfl, rfl⟩

/-! ## The interrupt controller -/

theorem ne_zero_iff_getLsbD {w : Nat} (x : BitVec w) : x ≠ 0 ↔ ∃ i, i < w ∧ x.getLsbD i = true := by
  rw [ne_eq, BitVec.eq_of_getLsbD_eq_iff]
  simp

/-- A source is pending and armed iff its bit is set in IE and in IF (R310). -/
theorem getLsbD_pendingArmed (s : State) {i : Nat} (h : i < 5) :
    s.pendingArmed.getLsbD i = (s.ie.getLsbD i && s.iflag.getLsbD i) := by
  simp [State.pendingArmed, h]

theorem isPending_iff (s : State) :
    s.isPending = true ↔ ∃ i, i < 5 ∧ s.ie.getLsbD i = true ∧ s.iflag.getLsbD i = true := by
  rw [State.isPending, bne_iff_ne, ne_zero_iff_getLsbD]
  refine exists_congr fun i => and_congr_right fun hi => ?_
  rw [getLsbD_pendingArmed s hi, Bool.and_eq_true]

theorem isPendingMask_iff (s : State) (v : Byte) :
    s.isPendingMask v = true ↔
      ∃ i, i < 5 ∧ s.ie.getLsbD i = true ∧ s.iflag.getLsbD i = true ∧ v.getLsbD i = true := by
  rw [State.isPendingMask, bne_iff_ne, ne_zero_iff_getLsbD]
  refine exists_congr fun i => and_congr_right fun hi => ?_
  rw [BitVec.getLsbD_and, getLsbD_pendingArmed s hi]
  simp [hi, and_assoc]

/-- IF reads as its five stored bits below the parameter for bits 7..5 (R36). -/
theorem toNat_memRead_iflag (s : State) :
    (memRead s 0xFF0F).toNat = s.params.ifUpperRead.toNat * 32 + s.iflag.toNat := by
  show (s.params.ifUpperRead ++ s.iflag).toNat = _
  rw [BitVec.toNat_append, ← Nat.shiftLeft_add_eq_or_of_lt s.iflag.isLt, Nat.shiftLeft_eq]

/-- Settles O42: the two addresses are the controller's own, and the masks are compared bit by bit. -/
theorem interruptController : Obligations.InterruptController := by
  intro s v
  refine ⟨rfl, rfl, rfl, toNat_memRead_iflag s, fun i hi => ?_, rfl, rfl, isPending_iff s, isPendingMask_iff s v⟩
  simp [State.raise, State.lower, hi]

/-! ## The reset values -/

section
variable (p : Params) (cart : Cart) (rom : Memory) (draw : Nat) (sched : List Move)

/-- After reset a RAM byte is the draw's (R402). -/
theorem memRead_resetWith_ram {a : Word}
    (h : ownerOf a = .workRam ∨ ownerOf a = .highRam ∨ ownerOf a = .videoRam ∨ ownerOf a = .oam) :
    memRead (State.resetWith p cart rom draw sched) a = Config.resetByte draw a.toNat := by
  have content : (State.resetWith p cart rom draw sched).onboard a.toNat = Config.resetByte draw a.toNat := by
    refine resetContent_ram draw ?_
    simp only [ownerOf, ite_eq_iff, reduceCtorEq, and_false, and_true, false_or, or_false] at h
    omega
  obtain e | e | e | e := h <;> simp only [memRead, e, content]

/-- After reset every controller shows bank 1 at 0x4000 (R381). -/
theorem highBank_resetWith (h : 1 < cart.romBanks) : (State.resetWith p cart rom draw sched).highBank = 1 := by
  have number : 1 % cart.romBanks = 1 := Nat.mod_eq_of_lt h
  unfold State.highBank
  cases hk : cart.kind <;> simp [State.resetWith, State.bankNumber, hk, number]

theorem memRead_resetWith_banked (h : 1 < cart.romBanks) {a : Word} (hlo : 0x4000 ≤ a.toNat) (hhi : a.toNat ≤ 0x7FFF) :
    memRead (State.resetWith p cart rom draw sched) a = romImageByte rom a.toNat := by
  have owner : ownerOf a = .romBanked := by
    simp only [ownerOf, ite_eq_iff, reduceCtorEq, and_false, and_true, false_or, or_false]
    omega
  have offset : 1 * 0x4000 + (a.toNat - 0x4000) = a.toNat := by omega
  simp only [memRead, owner, State.cartRomRead, if_neg (not_lt.2 hlo), highBank_resetWith p cart rom draw sched h, offset]
  rfl

/-- After reset the window 0xA000 to 0xBFFF shows nothing, RAM bank 0 or registers (R381, R386). -/
theorem ramWindow_resetWith :
    (State.resetWith p cart rom draw sched).ramWindow = .closed ∨
    (State.resetWith p cart rom draw sched).ramWindow = .ram 0 ∨
    (State.resetWith p cart rom draw sched).ramWindow = .register := by
  unfold State.ramWindow
  cases hk : cart.kind
  case romOnly => by_cases h0 : cart.ramBanks = 0 <;> simp [State.resetWith, hk, h0]
  case mbc1 | huc1 => simp [State.resetWith, hk]
  case other =>
    cases hw : Config.otherWindow []
    case closed | register => simp [State.resetWith, hk, hw]
    case ram =>
      cases hn : cart.nibbleRam
      · by_cases h0 : cart.ramBanks = 0 <;> simp [State.resetWith, hk, hw, hn, h0]
      · simp [State.resetWith, hk, hw, hn]

end

/-- A listed byte of cartridge RAM is what the window reads where it shows it, of a nibble RAM the low four bits (R73,
R380). -/
theorem memRead_cartRam_listed (s : State) {bank : Nat} {a : Word} {v : Byte} (ha : ownerOf a = .cartRam)
    (hw : s.ramWindow = .ram bank) (hv : Memory.get? s.cartRam (s.cartRamOffset bank a) = some v) :
    (memRead s a).extractLsb' 0 4 = v.extractLsb' 0 4 ∧ (s.hasNibbleRam = false → memRead s a = v) := by
  have listed : s.cartRamByte (s.cartRamOffset bank a) = v := by rw [State.cartRamByte, hv]; rfl
  have answer : memRead s a = if s.hasNibbleRam then Config.nibbleUpper a.toNat ++ v.extractLsb' 0 4 else v := by
    simp only [memRead, ha, State.cartRamRead, hw, listed]
  rw [answer]
  refine ⟨?_, fun hn => if_neg (by simp [hn])⟩
  split
  · exact BitVec.extractLsb'_append_eq_right
  · rfl

/-- Settles O54: the named values are the parameters of `State.reset`; the rest is what reset leaves any cartridge. -/
theorem resetValues : Obligations.ResetValues := by
  refine ⟨rfl, rfl, rfl, rfl, rfl, rfl, rfl, rfl, rfl, rfl, rfl, rfl, rfl, rfl, rfl, rfl, rfl, rfl, rfl, rfl, rfl, rfl,
    rfl, rfl, rfl, rfl, rfl, rfl, rfl, fun a => memRead_resetWith_ram _ _ _ _ _, fun n => rfl, ?_⟩
  intro p cart rom draw sched
  refine ⟨rfl, rfl, rfl, rfl, rfl, fun h a hlo hhi => memRead_resetWith_banked p cart rom draw sched h hlo hhi,
    ramWindow_resetWith p cart rom draw sched, fun m hbattery hsaved => ?_⟩
  have image : (State.resetWith p cart rom draw sched).cartRam = m := by simp [State.resetWith, hbattery, hsaved]
  exact ⟨image, fun a v ha hw hv => memRead_cartRam_listed _ ha hw (image.symm ▸ hv)⟩

end Sys2Proof.Machine
end

section
/-! PROOFS. The address map as ranges, and the statements about the bus that rest on it: which address a byte is stored
under, the fetch, RAM and a stack in RAM. -/

namespace Sys2Proof.Machine

section
variable {s : State} {a b : Word}

/-! ## The ranges of the address map -/

/-- The addresses of an owner, as R70 lists them. -/
def Owner.Range (n : Nat) : Owner → Prop
  | .romFixed => n ≤ 0x3FFF
  | .romBanked => 0x4000 ≤ n ∧ n ≤ 0x7FFF
  | .videoRam => 0x8000 ≤ n ∧ n ≤ 0x9FFF
  | .cartRam => 0xA000 ≤ n ∧ n ≤ 0xBFFF
  | .workRam => 0xC000 ≤ n ∧ n ≤ 0xDFFF
  | .echo => 0xE000 ≤ n ∧ n ≤ 0xFDFF
  | .oam => 0xFE00 ≤ n ∧ n ≤ 0xFE9F
  | .nobody => 0xFEA0 ≤ n ∧ n ≤ 0xFEFF ∨ n = 0xFF03 ∨ 0xFF08 ≤ n ∧ n ≤ 0xFF0E ∨ 0xFF4C ≤ n ∧ n ≤ 0xFF7F
  | .joypad => n = 0xFF00
  | .serial => n = 0xFF01 ∨ n = 0xFF02
  | .timer => 0xFF04 ≤ n ∧ n ≤ 0xFF07
  | .intFlag => n = 0xFF0F
  | .apu => 0xFF10 ≤ n ∧ n ≤ 0xFF3F
  | .ppu => 0xFF40 ≤ n ∧ n ≤ 0xFF4B
  | .highRam => 0xFF80 ≤ n ∧ n ≤ 0xFFFE
  | .intEnable => n = 0xFFFF

/-- The decoder's chain of bounds gives each owner exactly its range (R69, R70). -/
theorem ownerOf_iff (a : Word) (o : Owner) : ownerOf a = o ↔ o.Range a.toNat := by
  have := a.isLt
  cases o <;>
    simp only [ownerOf, Owner.Range, ite_eq_iff, reduceCtorEq, and_false, and_true, false_or, or_false] <;> omega

/-- The address in work RAM that an echo address shows (R70). -/
theorem toNat_echo (h : ownerOf a = .echo) : (a - 0x2000).toNat = a.toNat - 0x2000 := by
  have : 0xE000 ≤ a.toNat ∧ a.toNat ≤ 0xFDFF := (ownerOf_iff a .echo).1 h
  bv_omega

theorem ownerOf_echo (h : ownerOf a = .echo) : ownerOf (a - 0x2000) = .workRam := by
  have : 0xE000 ≤ a.toNat ∧ a.toNat ≤ 0xFDFF := (ownerOf_iff a .echo).1 h
  refine (ownerOf_iff _ .workRam).2 ?_
  rw [toNat_echo h]
  show 0xC000 ≤ _ ∧ _ ≤ 0xDFFF
  omega

theorem memRead_echo (s : State) (h : ownerOf a = .echo) : memRead s a = memRead s (a - 0x2000) := by
  simp only [memRead, h, ownerOf_echo h, toNat_echo h]

theorem memWrite_echo (s : State) (v : Byte) (h : ownerOf a = .echo) : memWrite s a v = memWrite s (a - 0x2000) v := by
  simp only [memWrite, h, ownerOf_echo h, toNat_echo h]

theorem memRead_nobody (s : State) (h : ownerOf a = .nobody) : memRead s a = 0xFF := by
  simp only [memRead, h]

theorem memWrite_nobody (s : State) (v : Byte) (h : ownerOf a = .nobody) : memWrite s a v = s := by
  simp only [memWrite, h]

/-- Settles O43: the sixteen ranges are `ownerOf_iff`; nobody's addresses and the echo answer as their arms say. -/
theorem addressMap : Obligations.AddressMap := by
  intro a
  have owner := ownerOf_iff a
  exact ⟨owner .romFixed, owner .romBanked, owner .videoRam, owner .cartRam, owner .workRam, owner .echo, owner .oam,
    owner .joypad, owner .serial, owner .timer, owner .intFlag, owner .apu, owner .ppu, owner .highRam,
    owner .intEnable, owner .nobody, fun h s v => ⟨memRead_nobody s h, memWrite_nobody s v h⟩,
    fun h s v => ⟨memRead_echo s h, memWrite_echo s v h⟩⟩

/-! ## The fetch -/

theorem fetchRead_low (s : State) (h : a.toNat ≤ 0x3FFF) : fetchRead s a = romImageByte s.rom a.toNat := if_pos h

theorem fetchRead_high (s : State) (h : 0x3FFF < a.toNat) : fetchRead s a = memRead s a := if_neg (not_le.2 h)

/-- A data read below 0x4000 reads the bank that the controller shows there (R72). -/
theorem memRead_romFixed (s : State) (h : a.toNat ≤ 0x3FFF) :
    memRead s a = romImageByte s.rom (s.lowBank * 0x4000 + a.toNat) := by
  simp only [memRead, (ownerOf_iff a .romFixed).2 h, State.cartRomRead, if_pos (show a.toNat < 0x4000 by omega)]
  rfl

/-- A ROM-only cartridge, and MBC1 or HuC1 in mode 0, show bank 0 there (R382, R384). -/
theorem lowBank_eq_zero (h : s.cart.kind = .romOnly ∨ s.cart.kind ≠ .other ∧ s.bankMode = 0) : s.lowBank = 0 := by
  unfold State.lowBank
  cases hk : s.cart.kind
  case romOnly => rfl
  case mbc1 | huc1 =>
    have mode : s.bankMode = 0 := by simpa [hk] using h
    simp [mode]
  case other => simp [hk] at h

/-- Settles O7: below 0x4000 the fetch is a read of bank 0, and so is the bus where the controller maps bank 0 there. -/
theorem fetchFastPath : Obligations.FetchFastPath := by
  intro s a
  refine ⟨fetchRead_low s, fetchRead_high s, fun hbank => ?_⟩
  rcases le_or_gt a.toNat 0x3FFF with low | high
  · rw [fetchRead_low s low, memRead_romFixed s low, lowBank_eq_zero hbank, zero_mul, zero_add]
  · exact fetchRead_high s high

/-! ## RAM -/

/-- An address of plain RAM, by its range: an echo address is stored under 0xC000 to 0xDDFF. -/
theorem inRam_iff (a : Word) :
    InRam a ↔ 0x8000 ≤ homeOf a ∧ homeOf a ≤ 0x9FFF ∨ 0xC000 ≤ homeOf a ∧ homeOf a ≤ 0xDFFF ∨
      0xFE00 ≤ homeOf a ∧ homeOf a ≤ 0xFE9F ∨ 0xFF80 ≤ homeOf a ∧ homeOf a ≤ 0xFFFE := by
  simp only [InRam, homeOf, ownerOf_iff, Owner.Range]
  split <;> omega

/-- Whether an address is RAM depends on where its byte is stored. -/
theorem inRam_of_homeOf_eq (ha : InRam a) (h : homeOf b = homeOf a) : InRam b := by
  rw [inRam_iff] at ha ⊢
  rwa [h]

theorem homeOf_le (a : Word) : homeOf a ≤ a.toNat := by
  unfold homeOf
  split <;> omega

/-- No RAM lies where the fetch bypasses the bus. -/
theorem fetchRead_ram (s : State) (h : InRam a) : fetchRead s a = memRead s a := by
  have := (inRam_iff a).1 h
  have := homeOf_le a
  exact fetchRead_high s (by omega)

theorem inRam_not_inCartridge (h : InRam a) : ¬ InCartridge a := by
  simp only [InRam, InCartridge, ownerOf_iff, Owner.Range] at h ⊢
  omega

theorem inRam_plainStore (s : State) (h : InRam a) : PlainStore s a := by
  have bounds := (inRam_iff a).1 h
  have le := homeOf_le a
  exact ⟨by omega, fun hc => absurd (.inr (.inr hc)) (inRam_not_inCartridge h)⟩

theorem memRead_memWrite_home (s : State) (v : Byte) (ha : InRam a) (h : homeOf b = homeOf a) :
    memRead (memWrite s a v) b = v := by
  rw [memWrite_ram s a v ha, ← h, memRead_setOnboard_self s v b (inRam_of_homeOf_eq ha h)]

/-- RAM read after a write: the byte written, at the address or its echo, and elsewhere what was there (R71). -/
theorem memRead_memWrite_ram (s : State) (b : Word) (v : Byte) (ha : InRam a) :
    memRead (memWrite s a v) b = if homeOf b = homeOf a then v else memRead s b := by
  split
  · exact memRead_memWrite_home s v ha ‹_›
  · exact memRead_memWrite_other s v ‹_› (.inr (inRam_plainStore s ha))

theorem memRead_ram (s : State) (h : InRam a) : memRead s a = s.onboard (homeOf a) := by
  rcases h with h | h | h | h | h <;> simp [memRead, homeOf, h]

/-- A RAM byte that nothing has written since reset is the draw's (R402). -/
theorem memRead_ram_unwritten (ha : InRam a) (h : s.mem = []) :
    memRead s a = Config.resetByte s.ramDraw (homeOf a) := by
  have bounds := (inRam_iff a).1 ha
  rw [memRead_ram s ha, State.onboard, h]
  exact resetContent_ram s.ramDraw (by omega)

/-- Settles O44: a write to RAM stores one byte under `homeOf`, which the bus and the fetch read there. -/
theorem ramReadAfterWrite : Obligations.RamReadAfterWrite := by
  intro s a b v ha
  refine ⟨memRead_memWrite_ram s b v ha, fun h => ?_, ?_, memRead_ram_unwritten ha⟩
  · rw [fetchRead_ram _ (inRam_of_homeOf_eq ha h), memRead_memWrite_home s v ha h]
  · rw [memWrite_ram s a v ha]
    rfl

/-! ## A stack in RAM -/

/-- The two bytes below SP are stored apart, if the lower one is RAM. -/
theorem homeOf_stack_ne (h2 : InRam (s.sp - 2)) : homeOf (s.sp - 1) ≠ homeOf (s.sp - 2) := by
  have next : (s.sp - 1).toNat = (s.sp - 2).toNat + 1 := by
    simp only [InRam, ownerOf_iff, Owner.Range] at h2
    bv_omega
  simp only [homeOf, ownerOf_iff, Owner.Range]
  split <;> split <;> omega

theorem push16_sp (s : State) (v : Word) : (push16 s v).sp = s.sp - 2 := by rw [push16_eq]

/-- What is pushed on a stack in RAM is what the next pop reads (R66, R67). -/
theorem popValue_push16 (v : Word) (h1 : InRam (s.sp - 1)) (h2 : InRam (s.sp - 2)) : popValue (push16 s v) = v := by
  have top : s.sp - 2 + 1 = s.sp - 1 := by bv_omega
  have reads (a : Word) : memRead (push16 s v) a =
      memRead (memWrite (memWrite s (s.sp - 1) (hi8 v)) (s.sp - 2) (lo8 v)) a := by
    rw [push16_eq]
    exact sameReads_of rfl a
  rw [popValue, reads, reads, push16_sp, top, memRead_memWrite_home _ _ h2 rfl, memRead_memWrite_ram _ _ _ h2,
    if_neg (homeOf_stack_ne h2), memRead_memWrite_home _ _ h1 rfl, mkWord_hi8_lo8]

/-- SP after a push and a pop of 2 bytes is where it was. -/
theorem sp_add_two_of_push16 (s : State) (v : Word) : (push16 s v).sp + 2 = s.sp := by
  rw [push16_sp]
  bv_omega

theorem popValue_spend (s : State) (n : Int) : popValue (s.spend n) = popValue s := by
  rw [popValue, popValue, spend_sp, memRead_spend, memRead_spend]

theorem popValue_withPc (s : State) (w : Word) : popValue { s with pc := w } = popValue s := by
  have reads (a : Word) : memRead { s with pc := w } a = memRead s a := sameReads_of rfl a
  rw [popValue, popValue, reads, reads]

/-- AF has no bits 3..0: it reads and pops without them (R23, R176). -/
theorem mkWord_and_F0 (hi lo : Byte) : mkWord hi (lo &&& 0xF0) = mkWord hi lo &&& 0xFFF0 := by
  have low : (0xFFF0 : Word) = mkWord 0xFF 0xF0 := by decide
  apply BitVec.eq_of_getLsbD_eq
  intro i hi
  rw [low, BitVec.getLsbD_and, getLsbD_mkWord, getLsbD_mkWord, getLsbD_mkWord]
  split
  · exact BitVec.getLsbD_and
  · have ones : ∀ j, j < 8 → (0xFF : Byte).getLsbD j = true := by decide
    rw [ones _ (by omega), Bool.and_true]

theorem stackReg_spend (s : State) (n : Int) (q : StackReg) : (s.spend n).stackReg q = s.stackReg q := by
  cases q <;> rfl

theorem stackReg_setStackReg (s : State) (q : StackReg) (v : Word) :
    (s.setStackReg q v).stackReg q = if q = .af then v &&& 0xFFF0 else v := by
  cases q with
  | bc | de | hl => exact mkWord_hi8_lo8 v
  | af =>
    have mask (f : Byte) : f &&& 0xF0 &&& 0xF0 = f &&& 0xF0 := by rw [BitVec.and_assoc, BitVec.and_self]
    show mkWord (hi8 v) (lo8 v &&& 0xF0 &&& 0xF0) = v &&& 0xFFF0
    rw [mask, mkWord_and_F0, mkWord_hi8_lo8]

end

/-- Settles O16: the pop reads the bytes the push stored, in the same order, and SP goes down and up by 2. -/
theorem stackRoundTrip : Obligations.StackRoundTrip := by
  intro s t hram
  have h1 : InRam (s.sp - 1) := hram _ (by simp)
  have h2 : InRam (s.sp - 2) := hram _ (by simp)
  refine ⟨fun q r h => ?_, fun nn h => ?_⟩
  · rw [exec_push] at h
    cases h
    refine ⟨_, exec_pop _ r, ?_, ?_⟩
    · rw [spend_sp, setStackReg_sp, popped_sp, spend_sp]
      exact sp_add_two_of_push16 s _
    · rw [popValue_spend, popValue_push16 _ h1 h2, stackReg_spend, stackReg_setStackReg]
  · cases h
    refine ⟨rfl, _, rfl, ?_, ?_⟩
    · rw [spend_pc]
      show popValue (State.spend _ 24) = s.pc
      rw [popValue_spend, popValue_withPc, popValue_push16 _ h1 h2]
    · exact sp_add_two_of_push16 s s.pc

end Sys2Proof.Machine
end

section
/-! PROOFS. One bus write: its frame by the owner of the address, and what cartridge RAM and the peripheral registers read
after it. -/

namespace Sys2Proof.Machine

section
variable (s : State) {a b : Word} (v : Byte)

/-! ## The frame of a bus write -/

/-- What a bus write is, with the owners of the addresses for which it is that (R61, R70). -/
inductive WriteForm (s : State) (a : Word) (v : Byte) : State → Prop
  | board (m : Memory) : WriteForm s a v { s with mem := m }
  | command : a.toNat < 0x8000 → WriteForm s a v (s.cartCommand a v)
  | cartRam : ownerOf a = .cartRam → WriteForm s a v (s.cartRamWrite a v)
  | timer : ownerOf a = .timer → WriteForm s a v (timerWrite s a v)
  | request (i : BitVec 5) : WriteForm s a v { s with iflag := i }
  | enable (e : Byte) : WriteForm s a v { s with ie := e }

theorem periphWrite_form (a : Word) : WriteForm s a v (s.periphWrite a v) := by
  unfold State.periphWrite
  dsimp only
  split
  · exact .board _
  · exact .board s.mem

theorem memWrite_form (a : Word) : WriteForm s a v (memWrite s a v) := by
  unfold memWrite
  cases e : ownerOf a
  case romFixed | romBanked =>
    refine .command ?_
    simp only [ownerOf_iff, Owner.Range] at e
    omega
  case videoRam | workRam | echo | oam | highRam | joypad => exact .board _
  case cartRam => exact .cartRam e
  case nobody => exact .board s.mem
  case serial | apu | ppu => exact periphWrite_form s v a
  case timer => exact .timer e
  case intFlag => exact .request _
  case intEnable => exact .enable _

theorem onlyBus_memWrite (a : Word) : OnlyBus s (memWrite s a v) := by
  unfold OnlyBus
  rw [memWrite_budget]
  exact memWrite_eq s a v

theorem cartRamWrite_cartLog (a : Word) (h : s.ramWindow ≠ .register) : (s.cartRamWrite a v).cartLog = s.cartLog := by
  unfold State.cartRamWrite
  cases e : s.ramWindow with
  | closed | ram => rfl
  | register => exact absurd e h

namespace WriteForm

variable {s v} {t : State} (f : WriteForm s a v t)
include f

/-- Only a write in its window reaches cartridge RAM (R73). -/
theorem keeps_cartRam (h : ownerOf a ≠ .cartRam) : t.cartRam = s.cartRam := by
  cases f with
  | board | request | enable => rfl
  | command => rw [cartCommand_eq]
  | cartRam e => exact absurd e h
  | timer => rw [timerWrite_frame]

/-- Only a command below 0x8000 reaches the bank registers (R72). -/
theorem keeps_banks (h : 0x8000 ≤ a.toNat) :
    t.ramOn = s.ramOn ∧ t.bankLo = s.bankLo ∧ t.bankHi = s.bankHi ∧ t.bankMode = s.bankMode := by
  cases f with
  | board | request | enable => exact ⟨rfl, rfl, rfl, rfl⟩
  | command e => omega
  | cartRam =>
    rw [cartRamWrite_eq]
    exact ⟨rfl, rfl, rfl, rfl⟩
  | timer =>
    rw [timerWrite_frame]
    exact ⟨rfl, rfl, rfl, rfl⟩

/-- Another controller records commands and writes to its window only (R386, log 14). -/
theorem keeps_cartLog (h : PlainStore s a) : t.cartLog = s.cartLog := by
  obtain ⟨high, window⟩ := h
  cases f with
  | board | request | enable => rfl
  | command e => omega
  | cartRam e => exact cartRamWrite_cartLog s v a (ramWindow_ne_register (window e))
  | timer => rw [timerWrite_frame]

/-- Only a write to TAC restarts the counter's tick budget (R345). -/
theorem keeps_timaTicks (h : a ≠ 0xFF07) : t.timaTicks = s.timaTicks := by
  cases f with
  | board | request | enable => rfl
  | command => rw [cartCommand_eq]
  | cartRam => rw [cartRamWrite_eq]
  | timer e =>
    obtain rfl | rfl | rfl | rfl := timer_address e
    · rfl
    · rfl
    · rfl
    · exact absurd rfl h

end WriteForm

theorem storeFrame_memWrite (a : Word) : StoreFrame s (memWrite s a v) [a] where
  rom := memWrite_rom s a v
  cartRam h := (memWrite_form s v a).keeps_cartRam (h a (by simp))
  board b hb h := memRead_memWrite_other s v (h a (by simp)) (.inl hb)
  plain hp b h := memRead_memWrite_other s v (h a (by simp)) (.inr (hp a (by simp)))
  banks h := (memWrite_form s v a).keeps_banks (h a (by simp))
  cartLog h := (memWrite_form s v a).keeps_cartLog (h a (by simp))
  ticks h := (memWrite_form s v a).keeps_timaTicks (h a (by simp))

/-! ## Cartridge RAM -/

theorem memWrite_cartWindow {bank : Nat} (ha : ownerOf a = .cartRam) (hw : s.ramWindow = .ram bank) :
    memWrite s a v =
      s.setCartRamByte (s.cartRamOffset bank a) (if s.hasNibbleRam then v &&& 0x0F else v) := by
  simp only [memWrite, ha, State.cartRamWrite, hw]

/-- Where the window shows a RAM bank, the byte written is listed in cartridge RAM, of a nibble RAM the low four bits. -/
theorem memWrite_cartRam_listed {bank : Nat} (ha : ownerOf a = .cartRam) (hw : s.ramWindow = .ram bank) :
    Memory.get? (memWrite s a v).cartRam ((memWrite s a v).cartRamOffset bank a) =
      some (if s.hasNibbleRam then v &&& 0x0F else v) := by
  rw [memWrite_cartWindow s v ha hw, setCartRamByte_cartRamOffset]
  exact Memory.get?_store_cartRam _ _ _

theorem extractLsb'_low_nibble : (v &&& 0x0F).extractLsb' 0 4 = v.extractLsb' 0 4 := by
  revert v
  decide

/-- A byte written where the window shows a RAM bank is read back (R73), of a nibble RAM its low four bits (R380). -/
theorem memRead_memWrite_cartWindow {bank : Nat} (ha : ownerOf a = .cartRam) (hw : s.ramWindow = .ram bank) :
    (memRead (memWrite s a v) a).extractLsb' 0 4 = v.extractLsb' 0 4 ∧
      (s.hasNibbleRam = false → memRead (memWrite s a v) a = v) := by
  have window : (memWrite s a v).ramWindow = .ram bank := by
    rw [memWrite_cartWindow s v ha hw, setCartRamByte_ramWindow, hw]
  have nibble : (memWrite s a v).hasNibbleRam = s.hasNibbleRam := hasNibbleRam_congr (memWrite_cart s a v)
  obtain ⟨low, whole⟩ := memRead_cartRam_listed _ ha window (memWrite_cartRam_listed s v ha hw)
  rw [nibble] at whole
  constructor
  · rw [low]
    split
    · exact extractLsb'_low_nibble v
    · rfl
  · intro h
    rw [whole h, h]
    rfl

end

/-- Settles O45: the frame is read off the form of the write, and an open RAM window lists the byte. -/
theorem busWriteFrame : Obligations.BusWriteFrame := by
  intro s a v
  refine ⟨onlyBus_memWrite s v a, storeFrame_memWrite s v a, fun bank ha hw => ?_⟩
  obtain ⟨low, whole⟩ := memRead_memWrite_cartWindow s v ha hw
  refine ⟨low, whole, ?_⟩
  rw [memWrite_cartWindow s v ha hw]
  rfl

/-! ## Peripheral registers -/

section
variable (s : State) {a : Word} (v : Byte)

theorem memRead_periph (h : ownerOf a = .serial ∨ ownerOf a = .apu ∨ ownerOf a = .ppu) :
    memRead s a = s.periphRead a := by
  obtain e | e | e := h <;> simp only [memRead, e]

theorem memWrite_periph (h : ownerOf a = .serial ∨ ownerOf a = .apu ∨ ownerOf a = .ppu) :
    memWrite s a v = s.periphWrite a v := by
  obtain e | e | e := h <;> simp only [memWrite, e]

theorem memRead_register (h : ownerOf a = .serial ∨ ownerOf a = .apu ∨ ownerOf a = .ppu)
    (hr : hasRegister a.toNat = true) : memRead s a = s.onboard a.toNat ||| periphOnes a.toNat := by
  rw [memRead_periph s h, State.periphRead, if_pos hr]

/-- A register after a write: the writable bits of the byte written, the read-only ones as they were, below the bits that
read as 1 (R363). -/
theorem memRead_memWrite_register (h : ownerOf a = .serial ∨ ownerOf a = .apu ∨ ownerOf a = .ppu)
    (hr : hasRegister a.toNat = true) :
    memRead (memWrite s a v) a =
      (v &&& ~~~periphReadOnly a.toNat ||| s.onboard a.toNat &&& periphReadOnly a.toNat) ||| periphOnes a.toNat := by
  rw [memRead_register _ h hr, memWrite_periph s v h]
  simp [State.periphWrite, hr, State.onboard]

theorem getLsbD_memRead_memWrite_register (h : ownerOf a = .serial ∨ ownerOf a = .apu ∨ ownerOf a = .ppu)
    (hr : hasRegister a.toNat = true) {i : Nat} (hi : i < 8) :
    (memRead (memWrite s a v) a).getLsbD i =
      if (periphOnes a.toNat).getLsbD i then true
      else if (periphReadOnly a.toNat).getLsbD i then (memRead s a).getLsbD i else v.getLsbD i := by
  rw [memRead_memWrite_register s v h hr, memRead_register s h hr]
  simp only [BitVec.getLsbD_or, BitVec.getLsbD_and, BitVec.getLsbD_not, hi, decide_true, Bool.true_and]
  cases (periphOnes a.toNat).getLsbD i <;> cases (periphReadOnly a.toNat).getLsbD i <;> simp

/-- Where R76 lists no register, there is neither storage nor effect (R60, R61). -/
theorem gap_access (h : a.toNat = 0xFF15 ∨ a.toNat = 0xFF1F ∨ 0xFF27 ≤ a.toNat ∧ a.toNat ≤ 0xFF2F) :
    ownerOf a = .apu ∧ memRead s a = 0xFF ∧ memWrite s a v = s := by
  have owner : ownerOf a = .apu := by
    refine (ownerOf_iff a .apu).2 ?_
    show 0xFF10 ≤ a.toNat ∧ a.toNat ≤ 0xFF3F
    omega
  have none : ¬ hasRegister a.toNat = true := by simpa using (hasRegister_eq_false a.toNat).2 h
  refine ⟨owner, ?_, ?_⟩
  · rw [memRead_periph s (.inr (.inl owner)), State.periphRead, if_neg none]
  · rw [memWrite_periph s v (.inr (.inl owner)), State.periphWrite]
    exact if_neg none

/-- STAT bit 7 reads as 1 (R363). -/
theorem memRead_stat_bit7 : (memRead s 0xFF41).getLsbD 7 = true := by
  have ones : (periphOnes (0xFF41 : Word).toNat).getLsbD 7 = true := by decide
  rw [memRead_register s (.inr (.inr rfl)) rfl, BitVec.getLsbD_or, ones, Bool.or_true]

/-- A write to LY is not seen: all its bits are read-only (R363). -/
theorem memRead_memWrite_ly : memRead (memWrite s 0xFF44 v) 0xFF44 = memRead s 0xFF44 := by
  apply BitVec.eq_of_getLsbD_eq
  intro i hi
  have ones : (periphOnes (0xFF44 : Word).toNat).getLsbD i = false := by
    show (0x00 : Byte).getLsbD i = false
    simp
  have readOnly : ∀ i, i < 8 → (periphReadOnly (0xFF44 : Word).toNat).getLsbD i = true := by decide
  rw [getLsbD_memRead_memWrite_register s v (.inr (.inr rfl)) rfl hi, ones, readOnly i hi]
  rfl

end

/-- Settles O46: a register's answer after a write is put together bit by bit from the two masks. -/
theorem peripheralRegisters : Obligations.PeripheralRegisters := by
  intro s v
  refine ⟨fun a h hgap i hi => ?_, fun a h => gap_access s v h, rfl, rfl, rfl, memRead_stat_bit7 s,
    memRead_memWrite_ly s v⟩
  have hr : hasRegister a.toNat = true := by
    by_contra hn
    exact hgap ((hasRegister_eq_false a.toNat).1 (Bool.eq_false_of_not_eq_true hn))
  exact getLsbD_memRead_memWrite_register s v h hr hi

end Sys2Proof.Machine
end

section
/-! PROOFS. The bank registers of MBC1 and HuC1 and the windows they map (R383, R384, R424). -/

namespace Sys2Proof.Machine

section
variable {s : State} {a : Word} {v : Byte}

/-- The cartridge has MBC1's bank controller: HuC1 is identical to it (R384). -/
def IsMbc1 (s : State) : Prop := s.cart.kind = .mbc1 ∨ s.cart.kind = .huc1

theorem IsMbc1.ne_other (h : IsMbc1 s) : s.cart.kind ≠ .other := by
  rcases h with h | h <;> simp [h]

/-! ## The registers -/

/-- What a command writes: the latch, one of the two bank registers or the mode, by its address (R383, R384). -/
theorem cartCommand_mbc1 (h : IsMbc1 s) (a : Word) (v : Byte) :
    s.cartCommand a v =
      if a.toNat < 0x2000 then { s with ramOn := v.extractLsb' 0 4 == 0xA }
      else if a.toNat < 0x4000 then { s with bankLo := if v.extractLsb' 0 5 = 0 then 1 else v.extractLsb' 0 5 }
      else if a.toNat < 0x6000 then { s with bankHi := v.extractLsb' 0 2 }
      else { s with bankMode := v.extractLsb' 0 1 } := by
  rcases h with h | h <;> simp only [State.cartCommand, h]

/-- A write below 0x8000 is a command to the bank controller (R72). -/
theorem memWrite_command (s : State) (v : Byte) (h : a.toNat ≤ 0x7FFF) : memWrite s a v = s.cartCommand a v := by
  rcases le_or_gt a.toNat 0x3FFF with low | high
  · simp only [memWrite, (ownerOf_iff a .romFixed).2 low]
  · simp only [memWrite, (ownerOf_iff a .romBanked).2 ⟨high, h⟩]

/-- The low bits of a byte, as a number. -/
theorem extractLsb'_eq_ofNat (v : Byte) (k : Nat) : v.extractLsb' 0 k = BitVec.ofNat k (v.toNat % 2 ^ k) := by
  apply BitVec.eq_of_toNat_eq
  simp

theorem memWrite_latch (h : IsMbc1 s) (ha : a.toNat ≤ 0x1FFF) :
    memWrite s a v = { s with ramOn := decide (v.toNat % 16 = 0xA) } := by
  have latch : ∀ v : Byte, (v.extractLsb' 0 4 == 0xA) = decide (v.toNat % 16 = 0xA) := by decide
  rw [memWrite_command s v (by omega), cartCommand_mbc1 h, if_pos (by omega), latch]

theorem memWrite_bankLo_mbc1 (h : IsMbc1 s) (hlo : 0x2000 ≤ a.toNat) (hhi : a.toNat ≤ 0x3FFF) :
    memWrite s a v = { s with bankLo := if v.toNat % 32 = 0 then 1 else BitVec.ofNat 5 (v.toNat % 32) } := by
  have zero : v.extractLsb' 0 5 = 0 ↔ v.toNat % 32 = 0 := by revert v; decide
  have low : v.extractLsb' 0 5 = BitVec.ofNat 5 (v.toNat % 32) := extractLsb'_eq_ofNat v 5
  rw [memWrite_command s v (by omega), cartCommand_mbc1 h, if_neg (by omega), if_pos (by omega), if_congr zero rfl low]

theorem memWrite_bankHi (h : IsMbc1 s) (hlo : 0x4000 ≤ a.toNat) (hhi : a.toNat ≤ 0x5FFF) :
    memWrite s a v = { s with bankHi := BitVec.ofNat 2 (v.toNat % 4) } := by
  have low : v.extractLsb' 0 2 = BitVec.ofNat 2 (v.toNat % 4) := extractLsb'_eq_ofNat v 2
  rw [memWrite_command s v (by omega), cartCommand_mbc1 h, if_neg (by omega), if_neg (by omega), if_pos (by omega), low]

theorem memWrite_bankMode (h : IsMbc1 s) (hlo : 0x6000 ≤ a.toNat) (hhi : a.toNat ≤ 0x7FFF) :
    memWrite s a v = { s with bankMode := BitVec.ofNat 1 (v.toNat % 2) } := by
  have low : v.extractLsb' 0 1 = BitVec.ofNat 1 (v.toNat % 2) := extractLsb'_eq_ofNat v 1
  rw [memWrite_command s v (by omega), cartCommand_mbc1 h, if_neg (by omega), if_neg (by omega), if_neg (by omega), low]

/-! ## The ROM windows -/

/-- `(bank_hi << 5) or bank_lo`: the two registers share no bit (R384). -/
theorem bankNumber_eq (s : State) : s.bankNumber = s.bankHi.toNat <<< 5 ||| s.bankLo.toNat := by
  rw [← Nat.shiftLeft_add_eq_or_of_lt s.bankLo.isLt, Nat.shiftLeft_eq]
  rfl

theorem memRead_romBanked (s : State) (hlo : 0x4000 ≤ a.toNat) (hhi : a.toNat ≤ 0x7FFF) :
    memRead s a = romImageByte s.rom (s.highBank * 0x4000 + (a.toNat - 0x4000)) := by
  simp only [memRead, (ownerOf_iff a .romBanked).2 ⟨hlo, hhi⟩, State.cartRomRead, if_neg (not_lt.2 hlo)]
  rfl

theorem highBank_mbc1 (h : IsMbc1 s) :
    s.highBank = (s.bankHi.toNat <<< 5 ||| s.bankLo.toNat) % s.cart.romBanks := by
  rw [← bankNumber_eq]
  rcases h with h | h <;> simp only [State.highBank, h]

theorem lowBank_mbc1 (h : IsMbc1 s) :
    s.lowBank = if s.bankMode = 1 ∧ 32 < s.cart.romBanks then (s.bankHi.toNat <<< 5) % s.cart.romBanks else 0 := by
  rw [Nat.shiftLeft_eq]
  rcases h with h | h <;> simp only [State.lowBank, h]

/-- In mode 0, and on a ROM of at most 32 banks, the low window shows bank 0 (R384, R424). -/
theorem memRead_bank0_mbc1 (h : IsMbc1 s) (ha : a.toNat ≤ 0x3FFF) (hs : s.bankMode = 0 ∨ s.cart.romBanks ≤ 32) :
    memRead s a = romImageByte s.rom a.toNat := by
  have fixed : ¬ (s.bankMode = 1 ∧ 32 < s.cart.romBanks) := by
    rintro ⟨mode, large⟩
    rcases hs with hs | hs
    · exact absurd (mode.symm.trans hs) (by decide)
    · omega
  rw [memRead_romFixed s ha, lowBank_mbc1 h, if_neg fixed, zero_mul, zero_add]

/-! ## The RAM window -/

theorem ramWindow_mbc1 (h : IsMbc1 s) :
    s.ramWindow =
      if s.cart.ramBanks = 0 then .closed
      else if s.ramOn then .ram (if s.bankMode = 1 then s.bankHi.toNat % s.cart.ramBanks else 0)
      else .closed := by
  rcases h with h | h <;> simp only [State.ramWindow, h]

/-- A closed window reads 0xFF and ignores writes (R73). -/
theorem memAccess_closed (s : State) (v : Byte) (ha : ownerOf a = .cartRam) (hw : s.ramWindow = .closed) :
    memRead s a = 0xFF ∧ memWrite s a v = s := by
  simp only [memRead, memWrite, ha, State.cartRamRead, State.cartRamWrite, hw, and_self]

theorem ramWindow_closed_mbc1 (h : IsMbc1 s) (hs : s.ramOn = false ∨ s.cart.ramBanks = 0) : s.ramWindow = .closed := by
  rw [ramWindow_mbc1 h]
  rcases hs with hs | hs <;> simp [hs]

theorem ramWindow_open_mbc1 (h : IsMbc1 s) (hon : s.ramOn = true) (hram : 0 < s.cart.ramBanks) :
    s.ramWindow = .ram (if s.bankMode = 1 then s.bankHi.toNat % s.cart.ramBanks else 0) := by
  rw [ramWindow_mbc1 h, if_neg hram.ne', if_pos hon]

/-- A window that shows a bank of a whole-byte RAM reads it 0x2000 bytes a bank (R73, log 15). -/
theorem memRead_bank {bank : Nat} (hk : s.cart.kind ≠ .other) (ha : ownerOf a = .cartRam)
    (hw : s.ramWindow = .ram bank) : memRead s a = s.cartRamByte (bank * 0x2000 + (a.toNat - 0xA000)) := by
  simp [memRead, ha, State.cartRamRead, hw, State.cartRamOffset, hasNibbleRam_of_ne hk]

/-- The window has no echo: two addresses store one byte only if they are the same. -/
theorem homeOf_ne_of_cartRam {b : Word} (ha : ownerOf a = .cartRam) (h : b ≠ a) : homeOf b ≠ homeOf a := by
  have ne : b.toNat ≠ a.toNat := mt BitVec.eq_of_toNat_eq h
  have bounds : 0xA000 ≤ a.toNat ∧ a.toNat ≤ 0xBFFF := (ownerOf_iff a .cartRam).1 ha
  rw [homeOf_of_ne (a := a) (by simp [ha])]
  simp only [homeOf, ownerOf_iff, Owner.Range]
  split <;> omega

/-- Where the window shows a RAM bank, a write changes the byte at its address and no other (R73). -/
theorem memRead_memWrite_bank {bank : Nat} (hk : s.cart.kind ≠ .other) (ha : ownerOf a = .cartRam)
    (hw : s.ramWindow = .ram bank) (b : Word) : memRead (memWrite s a v) b = if b = a then v else memRead s b := by
  have bounds : 0xA000 ≤ a.toNat ∧ a.toNat ≤ 0xBFFF := (ownerOf_iff a .cartRam).1 ha
  split
  · subst b
    obtain ⟨-, whole⟩ := memRead_memWrite_cartWindow s v ha hw
    exact whole (hasNibbleRam_of_ne hk)
  · exact memRead_memWrite_other s v (homeOf_ne_of_cartRam ha ‹_›) (.inr ⟨by omega, fun _ => hk⟩)

end

/-- Settles O49: a command writes the register of its address, and the windows are read off the registers. -/
theorem mbc1Banking : Obligations.Mbc1Banking := by
  intro s a b v h
  refine ⟨memWrite_latch h, memWrite_bankLo_mbc1 h, memWrite_bankHi h, memWrite_bankMode h, fun hlo hhi => ?_,
    memRead_bank0_mbc1 h, fun ha mode large => ?_, fetchRead_low s,
    fun ha hs => memAccess_closed s v ha (ramWindow_closed_mbc1 h hs), fun ha hon hram => ?_⟩
  · rw [memRead_romBanked s hlo hhi, highBank_mbc1 h]
  · rw [memRead_romFixed s ha, lowBank_mbc1 h, if_pos ⟨mode, large⟩]
  · have window := ramWindow_open_mbc1 h hon hram
    have whole := IsMbc1.ne_other h
    exact ⟨memRead_bank whole ha window, memRead_memWrite_bank whole ha window b⟩

end Sys2Proof.Machine
end

section
/-! PROOFS. The decoder against the encoder. The one follows the fields of R103, the other the grid of R111 and the
table of R112, so they are compared row by row: each opcode for what is decoded, each constructor for what is
encoded. -/

namespace Sys2Proof

/-! ## The opcode byte -/

/-- The opcode byte with the fields `x`, `y`, `z` of R103. -/
def opcode (x : Fin 4) (y z : Fin 8) : Byte := BitVec.ofNat 8 (64 * x + 8 * y + z)

theorem exists_opcode (b : Byte) : ∃ x y z, b = opcode x y z := by
  have := b.isLt
  refine ⟨⟨fieldX b, by unfold fieldX; omega⟩, ⟨fieldY b, by unfold fieldY; omega⟩,
    ⟨fieldZ b, by unfold fieldZ; omega⟩, BitVec.eq_of_toNat_eq ?_⟩
  simp only [opcode, fieldX, fieldY, fieldZ, BitVec.toNat_ofNat]
  omega

theorem instrLength_cases (b0 : Byte) : instrLength b0 = 1 ∨ instrLength b0 = 2 ∨ instrLength b0 = 3 := by
  unfold instrLength
  dsimp only
  repeat' split
  all_goals simp

theorem decode_three (b0 b1 b2 : Byte) :
    decode [b0, b1, b2] = .ok (decodeOp b0 b1 b2, [b0, b1, b2].drop (instrLength b0)) := by
  obtain h | h | h := instrLength_cases b0 <;> simp [decode, h]

/-- What a successful decoding has read. -/
theorem decode_eq_ok {bytes rest : List Byte} {i : Instr} (h : decode bytes = .ok (i, rest)) :
    ∃ b0 tail, bytes = b0 :: tail ∧ instrLength b0 ≤ tail.length + 1 ∧
      i = decodeOp b0 (tail.getD 0 0) (tail.getD 1 0) ∧ rest = tail.drop (instrLength b0 - 1) := by
  unfold decode at h
  split at h
  · cases h
  · split at h
    · cases h
    · cases h
      exact ⟨_, _, rfl, not_lt.1 ‹_›, rfl, rfl⟩

/-! ## What is decoded is spelled by the bytes that were read -/

/-- `i` is well formed and its encoding is `bytes`. -/
structure Spells (i : Instr) (bytes : List Byte) : Prop where
  wf : wellFormed i = true
  encode_eq : encode i = bytes

theorem decodeCb_spells (op2 : Byte) : Spells (decodeCb op2) [0xCB, op2] := by
  obtain ⟨x, y, z, rfl⟩ := exists_opcode op2
  fin_cases x <;> fin_cases y <;> fin_cases z <;> exact ⟨rfl, rfl⟩

/-- The bytes of an instruction with opcode `b0`, with an immediate word taken apart as `encode` does it: in this form
each row of the grid is an evaluation. -/
def bytesRead (b0 b1 b2 : Byte) : List Byte :=
  match instrLength b0 with
  | 3 => [b0, lo8 (mkWord b2 b1), hi8 (mkWord b2 b1)]
  | 2 => [b0, b1]
  | _ => [b0]

theorem bytesRead_eq_take (b0 b1 b2 : Byte) : bytesRead b0 b1 b2 = [b0, b1, b2].take (instrLength b0) := by
  unfold bytesRead
  obtain h | h | h := instrLength_cases b0 <;> simp [h]

/-- The grid of R111: only 0xCB, at `x = 3`, `y = 1`, `z = 3`, leads to another table. -/
theorem decodeOp_spells (b0 b1 b2 : Byte) : Spells (decodeOp b0 b1 b2) ([b0, b1, b2].take (instrLength b0)) := by
  rw [← bytesRead_eq_take]
  obtain ⟨x, y, z, rfl⟩ := exists_opcode b0
  fin_cases x
  on_goal 4 =>
    fin_cases y
    on_goal 2 =>
      fin_cases z
      on_goal 4 => exact decodeCb_spells b1
      all_goals exact ⟨rfl, rfl⟩
    all_goals fin_cases z <;> exact ⟨rfl, rfl⟩
  all_goals fin_cases y <;> fin_cases z <;> exact ⟨rfl, rfl⟩

/-- Settles O3: the decoder reads as many bytes as the opcode says, and they spell the instruction. -/
theorem encodeOfDecode : Obligations.EncodeOfDecode := by
  intro bytes i rest h
  obtain ⟨b0, tail, rfl, long, rfl, rfl⟩ := decode_eq_ok h
  obtain ⟨wf, spelled⟩ := decodeOp_spells b0 (tail.getD 0 0) (tail.getD 1 0)
  refine ⟨wf, ?_⟩
  rw [spelled]
  obtain h | h | h := instrLength_cases b0 <;> rw [h] at long ⊢
  · rfl
  · match tail with
    | _ :: _ => rfl
  · match tail with
    | _ :: _ :: _ => rfl

/-- What the decoder reads as invalid is its own encoding, so it is the opcode byte, and that is one of the eleven. -/
theorem mem_invalidOpcodes_of_decodeOp {b0 b1 b2 op : Byte} (h : decodeOp b0 b1 b2 = .illegal op) :
    b0 ∈ invalidOpcodes := by
  obtain ⟨wf, spelled⟩ := h ▸ decodeOp_spells b0 b1 b2
  change [op] = _ at spelled
  obtain rfl : op = b0 := by
    obtain hl | hl | hl := instrLength_cases b0 <;> simp_all
  exact List.contains_iff_mem.1 wf

/-- Settles O4: three bytes are enough for every length, and ILLEGAL decodes from its own byte only. -/
theorem decodeTotal : Obligations.DecodeTotal := by
  intro b0 b1 b2
  have length := instrLength_cases b0
  refine ⟨decodeOp b0 b1 b2, decode_three b0 b1 b2, by omega, by omega, fun ⟨op, h⟩ => ?_, fun mem => ?_⟩
  · exact mem_invalidOpcodes_of_decodeOp h
  · obtain ⟨-, h⟩ := Laws.RoundTrip.invalid_decodes b0 mem
    exact ⟨b0, h b1 b2⟩

/-! ## What is encoded is decoded again -/

/-- The opcode byte of `bytes` announces as many bytes as there are (R100), and the decoder reads `i` from them,
whatever stands in place of the bytes that the instruction does not have. -/
def DecodesTo (i : Instr) (bytes : List Byte) : Prop :=
  match bytes with
  | [b0] => instrLength b0 = 1 ∧ ∀ b1 b2, decodeOp b0 b1 b2 = i
  | [b0, b1] => instrLength b0 = 2 ∧ ∀ b2, decodeOp b0 b1 b2 = i
  | [b0, b1, b2] => instrLength b0 = 3 ∧ decodeOp b0 b1 b2 = i
  | _ => False

theorem decode_append {i : Instr} (bytes : List Byte) (h : DecodesTo i bytes) (rest : List Byte) :
    decode (bytes ++ rest) = .ok (i, rest) :=
  match bytes, h with
  | [_], ⟨length, decoded⟩ => Laws.RoundTrip.ofOne length decoded rest
  | [_, _], ⟨length, decoded⟩ => Laws.RoundTrip.ofTwo length decoded rest
  | [_, _, _], ⟨length, decoded⟩ => Laws.RoundTrip.ofThree length decoded rest

/-- Evaluation shows it of every constructor but these: an immediate word is put together from its halves, an invalid
opcode is one of eleven, and the row of 0xCB is not well formed (log 20). -/
theorem roundTrip (i : Instr) : Laws.RoundTrip.Statement i := by
  cases i with
  | illegal op => exact Laws.RoundTrip.illegal op
  | prefixCb op2 => exact Laws.RoundTrip.prefixCb op2
  | ldBcNn nn => exact Laws.RoundTrip.ldBcNn nn
  | ldDeNn nn => exact Laws.RoundTrip.ldDeNn nn
  | ldHlNn nn => exact Laws.RoundTrip.ldHlNn nn
  | ldSpNn nn => exact Laws.RoundTrip.ldSpNn nn
  | ldIndNnSp nn => exact Laws.RoundTrip.ldIndNnSp nn
  | ldIndNnA nn => exact Laws.RoundTrip.ldIndNnA nn
  | ldAIndNn nn => exact Laws.RoundTrip.ldAIndNn nn
  | jpNn nn => exact Laws.RoundTrip.jpNn nn
  | jpNzNn nn => exact Laws.RoundTrip.jpNzNn nn
  | jpZNn nn => exact Laws.RoundTrip.jpZNn nn
  | jpNcNn nn => exact Laws.RoundTrip.jpNcNn nn
  | jpCNn nn => exact Laws.RoundTrip.jpCNn nn
  | callNn nn => exact Laws.RoundTrip.callNn nn
  | callNzNn nn => exact Laws.RoundTrip.callNzNn nn
  | callZNn nn => exact Laws.RoundTrip.callZNn nn
  | callNcNn nn => exact Laws.RoundTrip.callNcNn nn
  | callCNn nn => exact Laws.RoundTrip.callCNn nn
  | _ => exact fun _ => decode_append _ (And.intro rfl (by intros; rfl))

/-- Settles O2: the round trip of every constructor. -/
theorem decodeOfEncode : Obligations.DecodeOfEncode := fun i rest wf => roundTrip i wf rest

/-- Settles O1: each word is evaluated. -/
theorem decodeOfSpecWords : Obligations.DecodeOfSpecWords := by
  unfold Obligations.DecodeOfSpecWords
  and_intros <;> rfl

end Sys2Proof
end

section
/-! PROOFS. The page of 0xCB, and what a step does with the bytes at PC. -/

namespace Sys2Proof.Machine

/-! ## The page of 0xCB -/

theorem decodeCb_ne_illegal (op2 op : Byte) : decodeCb op2 ≠ .illegal op := by
  intro h
  obtain ⟨-, spelled⟩ := h ▸ decodeCb_spells op2
  cases spelled

/-- The decoded instruction does the shared operation that the page selects for its second byte. -/
theorem exec_decodeCb (op2 : Byte) (s : State) : exec (decodeCb op2) s = cbPage op2 s := by
  unfold decodeCb cbPage
  generalize fieldX op2 = x, Opnd8.ofCode (fieldZ op2) = operand
  match x, operand with
  | 0, .reg _ => exact exec_rotReg ..
  | 0, .indHl => exact exec_rotHl ..
  | 1, .reg _ => exact exec_bitReg ..
  | 1, .indHl => exact exec_bitHl ..
  | 2, .reg _ => exact exec_resReg ..
  | 2, .indHl => exact exec_resHl ..
  | _ + 3, .reg _ => exact exec_setReg ..
  | _ + 3, .indHl => exact exec_setHl ..

theorem cbPage_completes (op2 : Byte) (s : State) :
    ∃ t, cbPage op2 s = .next t ∧ t.pc = s.pc ∧ t.sp = s.sp ∧ t.fault = s.fault := by
  unfold cbPage
  dsimp only
  split <;> exact ⟨_, rfl, by simp, by simp, by simp⟩

/-- Settles O5: the row of 0xCB is its page, and each of the page's eight operations completes. -/
theorem prefixPage : Obligations.PrefixPage := fun op2 s =>
  ⟨Laws.RoundTrip.ofTwo rfl (fun _ => rfl) [], decodeCb_ne_illegal op2, (exec_decodeCb op2 s).symm,
    cbPage_completes op2 s⟩

/-! ## The fetch -/

/-- `step_of_fetches` with the fetch written out. -/
theorem step_of_fetches_eq {s : State} (h : Fetches s) :
    step s = exec (decodeOp (fetchRead s s.pc) (fetchRead s (afterOpcode s)) (fetchRead s (afterOpcode s + 1))) { s with
      eiInhibit := false, haltBug := false, pc0 := s.pc
      pc := afterOpcode s + BitVec.ofNat 16 (instrLength (fetchRead s s.pc) - 1) } :=
  step_of_fetches s h

/-- Settles O6: the bytes decoded are those at PC and after `afterOpcode`, and PC moves past as many as were taken. -/
theorem stepRunsDecodedInstr : Obligations.StepRunsDecodedInstr := by
  intro s i rest fetches
  refine ⟨fun bug h => ?_, fun bug h => ?_⟩
  · have after : afterOpcode s = s.pc + 1 := by simp [afterOpcode, bug]
    rw [decode_three] at h
    cases h
    rw [step_of_fetches_eq fetches, after, add_assoc s.pc 1 1, add_assoc s.pc 1]
    obtain hl | hl | hl := instrLength_cases (fetchRead s s.pc) <;> rw [hl] <;> rfl
  · have after : afterOpcode s = s.pc := by simp [afterOpcode, bug]
    rw [decode_three] at h
    cases h
    rw [step_of_fetches_eq fetches, after]
    obtain hl | hl | hl := instrLength_cases (fetchRead s s.pc) <;> rw [hl] <;> rfl

end Sys2Proof.Machine
end

section
/-! PROOFS. The 8-bit loads and stores: what each of their four shared operations does, and the encoding of each
form. -/

namespace Sys2Proof.Machine

section
variable {s t u : State} {i : Instr}

/-! ## A load of a register -/

/-- Loading a register and spending ticks changes nothing but the register and the budget (R140). -/
theorem onlyRegs_setReg8_spend (s : State) (r : Reg8) (v : Byte) (k : Int) : OnlyRegs s ((s.setReg8 r v).spend k) :=
  ⟨by cases r <;> rfl, fun a => by rw [memRead_spend, memRead_setReg8]⟩

theorem loads_setReg8_spend (s : State) (r : Reg8) (v : Byte) (k : Int) : Loads s ((s.setReg8 r v).spend k) r v k where
  value := by rw [reg8_spend, reg8_setReg8, if_pos rfl]
  others q hq := by rw [reg8_spend, reg8_setReg8, if_neg hq]
  budget := by rw [spend_budget, setReg8_budget]
  frame := onlyRegs_setReg8_spend s r v k

theorem runs_of_loadReg {r : Reg8} {v : Byte} {k : Int} (h : exec i s = loadReg r v k s) :
    Runs i s (fun t => Loads s t r v k) :=
  ⟨_, h, loads_setReg8_spend s r v k⟩

/-! ## A store of one byte -/

/-- The frame of a store says nothing about the CPU's own fields. -/
theorem StoreFrame.of_withCpuOf {addrs : List Word} (h : StoreFrame s t addrs) (e : u = withCpuOf t u) :
    StoreFrame s u addrs := by
  have reads : SameReads t u := sameReads_of e
  obtain ⟨rom, cartRam, board, plain, banks, cartLog, ticks⟩ := h
  refine ⟨?_, ?_, fun a ha hne => (reads a).trans (board a ha hne), fun hp a hne => (reads a).trans (plain hp a hne),
    ?_, ?_, ?_⟩ <;> rw [e] <;> assumption

theorem OnlyBus.spend (h : OnlyBus s t) (k : Int) : OnlyBus s (t.spend k) := congrArg (State.spend · k) h

theorem OnlyBus.setHl (h : OnlyBus s t) (hl : Word) : OnlyBus (s.setHl hl) (t.setHl hl) :=
  congrArg (State.setHl · hl) h

theorem stores_memWrite_spend (s : State) (a : Word) (v : Byte) (k : Int) :
    Stores s ((memWrite s a v).spend k) a v k where
  store := by rw [State.spend, memWrite_budget]
  frame := (onlyBus_memWrite s v a).spend k
  bytes := (storeFrame_memWrite s v a).of_withCpuOf rfl

theorem runs_of_storeAt {a : Word} {v : Byte} {k : Int} (h : exec i s = storeAt a v k s) :
    Runs i s (fun t => Stores s t a v k) :=
  ⟨_, h, stores_memWrite_spend s a v k⟩

end

/-! ## Encodings -/

theorem encode_ldReg (dst r : Reg8) : encode (.ldReg dst r) = [BitVec.ofNat 8 (0x40 + 8 * dst.code + r.code)] := by
  cases dst <;> cases r <;> rfl

theorem encode_ldImm (dst : Reg8) (n : Byte) : encode (.ldImm dst n) = [BitVec.ofNat 8 (0x06 + 8 * dst.code), n] := by
  cases dst <;> rfl

theorem encode_ldFromHl (dst : Reg8) : encode (.ldFromHl dst) = [BitVec.ofNat 8 (0x46 + 8 * dst.code)] := by
  cases dst <;> rfl

theorem encode_ldToHl (r : Reg8) : encode (.ldToHl r) = [BitVec.ofNat 8 (0x70 + r.code)] := by
  cases r <;> rfl

/-- An immediate word is encoded low byte first (R63, R113). -/
theorem immediateWord_bytes (b0 lo hi : Byte) : [b0, lo8 (hi ++ lo), hi8 (hi ++ lo)] = [b0, lo, hi] :=
  congrArg₂ (fun x y => [b0, x, y]) (lo8_mkWord hi lo) (hi8_mkWord hi lo)

/-- Settles O9: each form is a `loadReg`, of the register or of the byte it names. -/
theorem loadRegisterForms : Obligations.LoadRegisterForms := fun s =>
  ⟨fun dst r => ⟨encode_ldReg dst r, runs_of_loadReg (exec_ldReg s dst r)⟩,
    fun dst n => ⟨encode_ldImm dst n, runs_of_loadReg (exec_ldImm s dst n)⟩,
    fun dst => ⟨encode_ldFromHl dst, runs_of_loadReg (exec_ldFromHl s dst)⟩,
    ⟨rfl, runs_of_loadReg rfl⟩,
    ⟨rfl, runs_of_loadReg rfl⟩,
    fun lo hi => ⟨immediateWord_bytes 0xFA lo hi, runs_of_loadReg rfl⟩,
    ⟨rfl, runs_of_loadReg rfl⟩,
    fun _ => ⟨rfl, runs_of_loadReg rfl⟩⟩

/-- Settles O10: each form is a `storeAt`, at the address it names. -/
theorem storeForms : Obligations.StoreForms := fun s =>
  ⟨fun r => ⟨encode_ldToHl r, runs_of_storeAt (exec_ldToHl s r)⟩,
    fun _ => ⟨rfl, runs_of_storeAt rfl⟩,
    ⟨rfl, runs_of_storeAt rfl⟩,
    ⟨rfl, runs_of_storeAt rfl⟩,
    fun lo hi => ⟨immediateWord_bytes 0xEA lo hi, runs_of_storeAt rfl⟩,
    ⟨rfl, runs_of_storeAt rfl⟩,
    fun _ => ⟨rfl, runs_of_storeAt rfl⟩⟩

/-! ## Loads and stores that move HL -/

theorem memWrite_setHl_spend_eq (s : State) (a : Word) (v : Byte) (hl : Word) (k : Int) :
    ((memWrite s a v).setHl hl).spend k =
      { memWrite s a v with h := hi8 hl, l := lo8 hl, budget := s.budget - k } := by
  rw [← memWrite_budget s a v]
  rfl

theorem toNat_hl_setHl_spend (t : State) (hl : Word) (k : Int) : ((t.setHl hl).spend k).hl.toNat = hl.toNat := by
  rw [hl_spend, hl_setHl]

/-- Settles O11: the byte moves between A and the old HL, and the new HL is the old one plus or minus 1. -/
theorem hlStepForms : Obligations.HlStepForms := by
  intro s stored loaded up down
  have stores (hl : Word) : stored (((memWrite s s.hl s.a).setHl hl).spend 8) hl.toNat :=
    ⟨memWrite_setHl_spend_eq s s.hl s.a hl 8, toNat_hl_setHl_spend _ hl 8,
      ((onlyBus_memWrite s s.a s.hl).setHl hl).spend 8, (storeFrame_memWrite s s.a s.hl).of_withCpuOf rfl⟩
  have loads (hl : Word) : loaded ((({ s with a := memRead s s.hl } : State).setHl hl).spend 8) hl.toNat :=
    ⟨rfl, toNat_hl_setHl_spend _ hl 8, sameReads_of rfl⟩
  have hup : (s.hl + 1).toNat = up := BitVec.toNat_add s.hl 1
  have hdown : (s.hl - 1).toNat = down := by
    rw [BitVec.toNat_sub, add_comm]
    rfl
  rw [← hup, ← hdown]
  exact ⟨⟨rfl, _, rfl, stores _⟩, ⟨rfl, _, rfl, loads _⟩, ⟨rfl, _, rfl, stores _⟩, ⟨rfl, _, rfl, loads _⟩⟩

end Sys2Proof.Machine
end

section
/-! PROOFS. The 16-bit loads and the stack: two stores in a row, SP with a signed displacement, the push and the pop. -/

namespace Sys2Proof.Machine

section
variable {s t u : State} {xs ys : List Word}

/-! ## One store after another -/

theorem OnlyBus.trans (h : OnlyBus s t) (k : OnlyBus t u) : OnlyBus s u := by
  unfold OnlyBus at h k ⊢
  rw [k, h]

theorem plainStore_congr (h : t.cart = s.cart) (x : Word) : PlainStore t x ↔ PlainStore s x := by
  rw [PlainStore, PlainStore, h]

/-- Stores at `xs`, then stores at `ys`: whether a store is a bank-controller command is up to the cartridge, which no
store changes (R41). -/
theorem StoreFrame.append (h : StoreFrame s t xs) (k : StoreFrame t u ys) (cart : t.cart = s.cart) :
    StoreFrame s u (xs ++ ys) := by
  have left {p : Word → Prop} (hp : ∀ x ∈ xs ++ ys, p x) : ∀ x ∈ xs, p x :=
    fun x hx => hp x (List.mem_append_left ys hx)
  have right {p : Word → Prop} (hp : ∀ x ∈ xs ++ ys, p x) : ∀ x ∈ ys, p x :=
    fun y hy => hp y (List.mem_append_right xs hy)
  have plain (hp : ∀ x ∈ xs ++ ys, PlainStore s x) : ∀ y ∈ ys, PlainStore t y :=
    fun y hy => (plainStore_congr cart y).2 (right hp y hy)
  refine ⟨k.rom.trans h.rom, fun hn => (k.cartRam (right hn)).trans (h.cartRam (left hn)),
    fun a ha hn => (k.board a ha (right hn)).trans (h.board a ha (left hn)),
    fun hp a hn => (k.plain (plain hp) a (right hn)).trans (h.plain (left hp) a (left hn)), fun hn => ?_,
    fun hp => (k.cartLog (plain hp)).trans (h.cartLog (left hp)),
    fun hn => (k.ticks (right hn)).trans (h.ticks (left hn))⟩
  obtain ⟨on, lo, hi, mode⟩ := h.banks (left hn)
  rw [← on, ← lo, ← hi, ← mode]
  exact k.banks (right hn)

theorem onlyBus_memWrite_memWrite (s : State) (a b : Word) (v w : Byte) :
    OnlyBus s (memWrite (memWrite s a v) b w) :=
  (onlyBus_memWrite s v a).trans (onlyBus_memWrite _ w b)

theorem storeFrame_memWrite_memWrite (s : State) (a b : Word) (v w : Byte) :
    StoreFrame s (memWrite (memWrite s a v) b w) [a, b] :=
  (storeFrame_memWrite s v a).append (storeFrame_memWrite _ w b) (memWrite_cart s a v)

theorem memWrite_memWrite_spend_eq (s : State) (a b : Word) (v w : Byte) (k : Int) :
    (memWrite (memWrite s a v) b w).spend k =
      { memWrite (memWrite s a v) b w with budget := s.budget - k } := by
  rw [State.spend, memWrite_budget, memWrite_budget]

/-! ## A load of a 16-bit register -/

theorem reg16_spend (s : State) (k : Int) (p : Reg16) : (s.spend k).reg16 p = s.reg16 p := by
  cases p <;> rfl

theorem loadsPair_setReg16_spend (s : State) (p : Reg16) (v : Word) (k : Int) :
    LoadsPair s ((s.setReg16 p v).spend k) p v k where
  value := by rw [reg16_spend, reg16_setReg16, if_pos rfl]
  others q hq := by rw [reg16_spend, reg16_setReg16, if_neg hq]
  frame := ⟨by cases p <;> rfl, fun a => by rw [memRead_spend, memRead_setReg16]⟩

theorem runs_of_setReg16 {i : Instr} {p : Reg16} {v : Word} {k : Int}
    (h : exec i s = .next ((s.setReg16 p v).spend k)) : Runs i s (fun t => LoadsPair s t p v k) :=
  ⟨_, h, loadsPair_setReg16_spend s p v k⟩

theorem encode_ldPair (p : Reg16) (lo hi : Byte) :
    encode (.ldPair p (hi ++ lo)) = [BitVec.ofNat 8 (0x01 + 16 * p.code), lo, hi] := by
  cases p <;> exact immediateWord_bytes _ lo hi

/-! ## A signed displacement -/

/-- Adding the sign-extended byte is adding the signed displacement modulo 0x10000 (R9, R10). -/
theorem add_sext16 (x : Word) (e : Byte) : x + sext16 e = BitVec.ofInt 16 (x.toNat + e.toInt) := by
  rw [BitVec.ofInt_add, BitVec.ofInt_natCast, BitVec.ofNat_toNat, BitVec.setWidth_eq]
  rfl

theorem toNat_add_sext16 (x : Word) (e : Byte) :
    ((x + sext16 e).toNat : Int) = (x.toNat + e.toInt) % 0x10000 := by
  rw [add_sext16, BitVec.toNat_ofInt]
  exact Int.toNat_of_nonneg (Int.emod_nonneg _ (by decide))

/-! ## The push -/

theorem push16_pc (s : State) (v : Word) : (push16 s v).pc = s.pc := by
  rw [push16_eq, memWrite_pc, memWrite_pc]

theorem OnlyBus.withSpPc (h : OnlyBus s t) (sp pc : Word) :
    OnlyBus { s with sp := sp, pc := pc } { t with sp := sp, pc := pc } := by
  unfold OnlyBus at h ⊢
  rw [h]

/-- A push followed by a jump: `PUSH qq` jumps to where PC is, the calls to their target (R66). -/
theorem pushes_push16_spend (s : State) (v pc : Word) (k : Int) :
    Pushes s (State.spend { push16 s v with pc := pc } k) v pc k := by
  rw [push16_eq]
  exact
    { store := by rw [State.spend, memWrite_budget, memWrite_budget]; rfl
      frame := ((onlyBus_memWrite_memWrite s _ _ _ _).withSpPc _ pc).spend k
      bytes := (storeFrame_memWrite_memWrite s _ _ _ _).of_withCpuOf rfl }

theorem pushes_push16 (s : State) (v : Word) (k : Int) : Pushes s ((push16 s v).spend k) v s.pc k := by
  have stays : push16 s v = { push16 s v with pc := s.pc } := by rw [← push16_pc s v]
  rw [stays]
  exact pushes_push16_spend s v s.pc k

theorem runs_push (s : State) (q : StackReg) : Runs (.push q) s (fun t => Pushes s t (s.stackReg q) s.pc 16) :=
  ⟨_, exec_push s q, pushes_push16 s (s.stackReg q) 16⟩

/-! ## The pop -/

/-- F loaded from a byte whose low nibble is discarded (R176). -/
theorem hasFlags_of_and_F0 {v : Byte} (e : t.f = v &&& 0xF0) :
    HasFlags t (v.getLsbD 7) (v.getLsbD 6) (v.getLsbD 5) (v.getLsbD 4) := by
  rw [HasFlags, e]
  exact and_F0_bits v

theorem setBc_popValue (t s : State) :
    t.setBc (popValue s) = { t with b := memRead s (s.sp + 1), c := memRead s s.sp } := by
  rw [State.setBc, hi8_popValue, lo8_popValue]

theorem setDe_popValue (t s : State) :
    t.setDe (popValue s) = { t with d := memRead s (s.sp + 1), e := memRead s s.sp } := by
  rw [State.setDe, hi8_popValue, lo8_popValue]

theorem setHl_popValue (t s : State) :
    t.setHl (popValue s) = { t with h := memRead s (s.sp + 1), l := memRead s s.sp } := by
  rw [State.setHl, hi8_popValue, lo8_popValue]

theorem setAf_popValue (t s : State) :
    t.setAf (popValue s) = { t with a := memRead s (s.sp + 1), f := memRead s s.sp &&& 0xF0 } := by
  rw [State.setAf, hi8_popValue, lo8_popValue]

/-- A pop is known from what its value does to the register pair: SP has moved, and no byte reads otherwise. -/
theorem runs_pop {q : StackReg} (h : (popped s).setStackReg q (popValue s) = t) :
    Runs (.pop q) s (fun u => u = t.spend 12 ∧ SameReads s u) := by
  refine ⟨_, exec_pop s q, congrArg (State.spend · 12) h, fun a => ?_⟩
  rw [memRead_spend, memRead_setStackReg]
  exact sameReads_of rfl a

end

/-- Settles O13: a pair is loaded by `setReg16`, and the two bytes of SP are two stores in a row. -/
theorem loadPairForms : Obligations.LoadPairForms := fun s =>
  ⟨fun p lo hi => ⟨encode_ldPair p lo hi, runs_of_setReg16 (exec_ldPair s p _)⟩,
    fun lo hi => ⟨immediateWord_bytes 0x08 lo hi, _, rfl, memWrite_memWrite_spend_eq s _ _ _ _ 20,
      (onlyBus_memWrite_memWrite s _ _ _ _).spend 20, (storeFrame_memWrite_memWrite s _ _ _ _).of_withCpuOf rfl⟩,
    ⟨rfl, runs_of_setReg16 (p := .sp) rfl⟩⟩

/-- Settles O14: both forms add by `addSpOffset`, whose sum is the signed one. -/
theorem spDisplacementForms : Obligations.SpDisplacementForms := by
  intro s e sum h cy
  have signed : ((s.sp + sext16 e).toNat : Int) = sum := toNat_add_sext16 s.sp e
  refine ⟨⟨rfl, _, rfl, ?_, hasFlags_of_f _ _ _ _ rfl, rfl, sameReads_of rfl⟩,
    ⟨rfl, _, rfl, signed, hasFlags_of_f _ _ _ _ rfl, rfl, sameReads_of rfl⟩⟩
  rw [hl_spend, hl_setFlags, hl_setHl]
  exact signed

/-- Settles O15: a push stores the pair's two bytes one below the other, and a pop takes `popValue` apart again. -/
theorem pushPopForms : Obligations.PushPopForms := by
  intro s lo hi
  refine ⟨⟨rfl, runs_push s .bc⟩, ⟨rfl, runs_push s .de⟩, ⟨rfl, runs_push s .hl⟩, ⟨rfl, runs_push s .af⟩,
    ⟨rfl, runs_pop (q := .bc) (setBc_popValue _ s)⟩, ⟨rfl, runs_pop (q := .de) (setDe_popValue _ s)⟩,
    ⟨rfl, runs_pop (q := .hl) (setHl_popValue _ s)⟩, rfl, ?_⟩
  obtain ⟨t, run, rfl, reads⟩ := runs_pop (q := .af) (setAf_popValue _ s)
  exact ⟨_, run, hasFlags_of_and_F0 rfl, rfl, reads⟩

end Sys2Proof.Machine
end

section
/-! PROOFS. 8-bit arithmetic and logic: what writing an ALU result and its flags does, the forms of each operation with
their encodings, and what each routine of the ALU computes. -/

namespace Sys2Proof.Machine

section
variable {s t : State} {i : Instr} {o : AluOut} {res : Int} {z n h cy : Bool} {k : Int}

/-! ## A result and its flags -/

/-- Writing a result and its flags changes nothing else. -/
theorem computes_putFlags_spend (s : State) (r : Reg8) (k : Int) (value : (o.res.toNat : Int) = res)
    (flags : mkF o.z o.n o.h o.cy = mkF z n h cy) :
    Computes s (((s.setReg8 r o.res).putFlags o).spend k) r res z n h cy k where
  value := by rw [reg8_spend, State.putFlags, reg8_setFlags, reg8_setReg8, if_pos rfl, value]
  flags := hasFlags_of_f z n h cy flags
  others q hq := by rw [reg8_spend, State.putFlags, reg8_setFlags, reg8_setReg8, if_neg hq]
  budget := by rw [spend_budget, State.putFlags, setFlags_budget, setReg8_budget]
  frame := ⟨by cases r <;> rfl, fun a => by rw [memRead_spend, State.putFlags, memRead_setFlags, memRead_setReg8]⟩

theorem runs_of_updateReg {r : Reg8} (run : exec i s = updateReg r o k s) (value : (o.res.toNat : Int) = res)
    (flags : mkF o.z o.n o.h o.cy = mkF z n h cy) : Runs i s (fun t => Computes s t r res z n h cy k) :=
  ⟨_, run, computes_putFlags_spend s r k value flags⟩

theorem flagsOnly_setFlags_spend (s : State) (z n h cy : Bool) (k : Int) :
    FlagsOnly s ((s.setFlags z n h cy).spend k) z n h cy k where
  flags := hasFlags_of_f z n h cy rfl
  budget := rfl
  frame := ⟨rfl, sameReads_of rfl⟩

theorem OnlyBus.setFlags (b : OnlyBus s t) (z n h cy : Bool) :
    OnlyBus (s.setFlags z n h cy) (t.setFlags z n h cy) :=
  congrArg (State.setFlags · z n h cy) b

theorem storesFlags_putFlags_spend (s : State) (a : Word) (k : Int) (flags : mkF o.z o.n o.h o.cy = mkF z n h cy) :
    StoresFlags s (((memWrite s a o.res).putFlags o).spend k) a o.res z n h cy k where
  store := by rw [State.spend, State.putFlags, setFlags_budget, memWrite_budget]; rfl
  flags := hasFlags_of_f z n h cy flags
  frame := ((onlyBus_memWrite s o.res a).setFlags o.z o.n o.h o.cy).spend k
  bytes := (storeFrame_memWrite s o.res a).of_withCpuOf rfl

theorem runs_of_updateMem (run : exec i s = updateMem o k s) (flags : mkF o.z o.n o.h o.cy = mkF z n h cy) :
    Runs i s (fun t => StoresFlags s t s.hl o.res z n h cy k) :=
  ⟨_, run, storesFlags_putFlags_spend s s.hl k flags⟩

/-! ## The operand forms of an operation on A -/

theorem encode_aluReg (op : AluOp) (r : Reg8) :
    encode (.aluReg op r) = [BitVec.ofNat 8 (0x80 + 8 * op.code + r.code)] := by
  cases op <;> cases r <;> rfl

theorem encode_aluHl (op : AluOp) : encode (.aluHl op) = [BitVec.ofNat 8 (0x86 + 8 * op.code)] := by
  cases op <;> rfl

theorem encode_aluImm (op : AluOp) (n : Byte) :
    encode (.aluImm op n) = [BitVec.ofNat 8 (0xC6 + 8 * op.code), n] := by
  cases op <;> rfl

theorem encode_incReg (r : Reg8) : encode (.incReg r) = [BitVec.ofNat 8 (0x04 + 8 * r.code)] := by
  cases r <;> rfl

theorem encode_decReg (r : Reg8) : encode (.decReg r) = [BitVec.ofNat 8 (0x05 + 8 * r.code)] := by
  cases r <;> rfl

/-- Every operand form does what `aluA` does with its operand (R180). -/
theorem aluForms_of_aluA {op : AluOp} {P : Byte → Int → State → Prop}
    (run : ∀ v k, ∃ t, aluA op v k s = .next t ∧ P v k t) : AluForms op s P := by
  refine ⟨fun r => ⟨encode_aluReg op r, ?_⟩, ⟨encode_aluHl op, ?_⟩, fun n => ⟨encode_aluImm op n, ?_⟩⟩
  · rw [Runs, exec_aluReg]
    exact run _ _
  · rw [Runs, exec_aluHl]
    exact run _ _
  · rw [Runs, exec_aluImm]
    exact run _ _

/-- Every operation but CP writes its result to A. -/
theorem aluForms_of_aluOut {op : AluOp} {P : Byte → Int → State → Prop} (ne : op ≠ .cp)
    (next : ∀ v k, P v k (((s.setReg8 .a (aluOut op s.a v s.cf).res).putFlags (aluOut op s.a v s.cf)).spend k)) :
    AluForms op s P := by
  refine aluForms_of_aluA fun v k => ⟨_, ?_, next v k⟩
  cases op with
  | cp => exact absurd rfl ne
  | _ => rfl

end

/-! ## The routines -/

section
variable (a v : Byte) (cy : Bool)

/-- H is the borrow into bit 4 (R182). -/
theorem sub8_h : (sub8 a v cy).h = decide (a.toNat % 16 < v.toNat % 16 + cy.toNat) :=
  decide_eq_decide.2 (by omega)

/-- Without a borrow in, Z says that the operands are equal, and Cy that the first is below the second (R211). -/
theorem sub8_z : (sub8 a v false).z = decide (a = v) :=
  decide_eq_decide.2 (by
    have := a.isLt
    have := v.isLt
    rw [← BitVec.toNat_inj, Bool.toNat_false]
    omega)

theorem sub8_cy : (sub8 a v false).cy = decide (a.toNat < v.toNat) :=
  decide_eq_decide.2 (by
    rw [Bool.toNat_false]
    omega)

/-- CP writes the flags of the comparison and nothing else (R211). -/
theorem aluA_cp (s : State) (v : Byte) (k : Int) :
    aluA .cp v k s = .next ((s.setFlags (decide (s.a = v)) true (decide (s.a.toNat % 16 < v.toNat % 16))
      (decide (s.a.toNat < v.toNat))).spend k) := by
  rw [← sub8_z, ← sub8_cy, ← add_zero (v.toNat % 16), ← Bool.toNat_false, ← sub8_h]
  rfl

theorem inc8_res : (inc8 v cy).res.toNat = (v.toNat + 1) % 256 := BitVec.toNat_add v 1

theorem dec8_res : (dec8 v cy).res.toNat = (v.toNat + 255) % 256 := by
  rw [add_comm]
  exact BitVec.toNat_sub v 1

theorem inc8_z : (inc8 v cy).z = decide (v = 0xFF) := decide_eq_decide.2 (by bv_omega)

theorem dec8_z : (dec8 v cy).z = decide (v = 0x01) := decide_eq_decide.2 (by bv_omega)

end

/-! ## Arithmetic -/

/-- Settles O17: `add8` is the sum with its carries. -/
theorem addForms : Obligations.AddForms := by
  intro s adds
  have computes (cin : Bool) (v : Byte) (k : Int) :
      adds cin v k (((s.setReg8 .a (add8 s.a v cin).res).putFlags (add8 s.a v cin)).spend k) :=
    computes_putFlags_spend s .a k (congrArg Nat.cast (add8_res s.a v cin)) rfl
  exact ⟨aluForms_of_aluOut (by decide) (computes false), aluForms_of_aluOut (by decide) (computes s.cf)⟩

/-- Settles O18: `sub8` is the difference with its borrows. -/
theorem subForms : Obligations.SubForms := by
  intro s subs
  have computes (cin : Bool) (v : Byte) (k : Int) :
      subs cin v k (((s.setReg8 .a (sub8 s.a v cin).res).putFlags (sub8 s.a v cin)).spend k) :=
    computes_putFlags_spend s .a k (sub8_res s.a v cin) (congrArg (mkF _ _ · _) (sub8_h s.a v cin))
  exact ⟨aluForms_of_aluOut (by decide) (computes false), aluForms_of_aluOut (by decide) (computes s.cf)⟩

/-- Settles O19: CP is a subtraction whose result is dropped. -/
theorem compareForms : Obligations.CompareForms := fun s =>
  aluForms_of_aluA fun v k => ⟨_, aluA_cp s v k, flagsOnly_setFlags_spend s _ _ _ _ k⟩

/-- Settles O20: each routine is the bitwise operation, whose bits are known. -/
theorem logicForms : Obligations.LogicForms := fun s =>
  ⟨aluForms_of_aluOut (by decide) fun v k =>
      ⟨fun _ _ => BitVec.getLsbD_and, computes_putFlags_spend s .a k rfl rfl⟩,
    aluForms_of_aluOut (by decide) fun v k =>
      ⟨fun _ _ => BitVec.getLsbD_xor, computes_putFlags_spend s .a k rfl rfl⟩,
    aluForms_of_aluOut (by decide) fun v k =>
      ⟨fun _ _ => BitVec.getLsbD_or, computes_putFlags_spend s .a k rfl rfl⟩⟩

/-- Settles O21: the register and the memory forms share `inc8` and `dec8`. -/
theorem incDecForms : Obligations.IncDecForms := by
  intro s m
  have number (x y : Byte) : decide (x = y) = decide (x.toNat = y.toNat) := decide_eq_decide.2 BitVec.toNat_inj.symm
  refine ⟨fun r => ⟨⟨encode_incReg r, ?_⟩, ⟨encode_decReg r, ?_⟩⟩, ⟨rfl, ?_⟩, ⟨rfl, ?_⟩⟩
  · exact runs_of_updateReg (exec_incReg s r) (congrArg Nat.cast (inc8_res _ _))
      (congrArg (mkF · _ _ _) ((inc8_z _ _).trans (number _ 0xFF)))
  · exact runs_of_updateReg (exec_decReg s r) (congrArg Nat.cast (dec8_res _ _))
      (congrArg (mkF · _ _ _) ((dec8_z _ _).trans (number _ 0x01)))
  · exact runs_of_updateMem rfl (congrArg (mkF · _ _ _) (inc8_z m s.cf))
  · exact runs_of_updateMem rfl (congrArg (mkF · _ _ _) (dec8_z m s.cf))

/-- Settles O24: CPL is a result with flags, SCF and CCF are flags only. -/
theorem complementAndCarryForms : Obligations.ComplementAndCarryForms := by
  intro s
  have complement : ((~~~s.a).toNat : Int) = (255 - s.a.toNat : Nat) := congrArg Nat.cast BitVec.toNat_not
  exact ⟨⟨rfl, runs_of_updateReg (r := .a) (o := ⟨~~~s.a, s.zf, true, true, s.cf⟩) rfl complement rfl⟩,
    ⟨rfl, _, rfl, flagsOnly_setFlags_spend s _ _ _ _ 4⟩, ⟨rfl, _, rfl, flagsOnly_setFlags_spend s _ _ _ _ 4⟩⟩

end Sys2Proof.Machine
end

section
/-! PROOFS. The decimal adjustment, and that it turns binary addition and subtraction into decimal ones. -/

namespace Sys2Proof.Machine

/-! ## The adjustment -/

section
variable (a : Byte) (n h cy : Bool)

/-- Whether DAA corrects by 0x60, which is its Cy (R218). -/
def daaHigh : Bool := if n then cy else cy || decide (a.toNat > 0x99)

/-- Whether DAA corrects by 0x06 (R218). -/
def daaLow : Bool := if n then h else h || decide (a.toNat % 16 > 0x09)

/-- A plus or minus the corrections of DAA, before truncation (R218). -/
def daaSum : Int :=
  let corr : Int := (if daaHigh a n cy then 0x60 else 0) + (if daaLow a n h then 0x06 else 0)
  if n then a.toNat - corr else a.toNat + corr

/-- The two corrections are independent: adding 0x60 keeps the low digit that decides on 0x06. -/
theorem daaAdjust_eq : daaAdjust a n h cy = (daaSum a n h cy, daaHigh a n cy) := by
  cases n with
  | false =>
    have high : cy = true ∨ (a.toNat : Int) > 0x99 ↔ daaHigh a false cy = true := by simp [daaHigh]
    have low (x : Int) (hx : x % 16 = a.toNat % 16) : h = true ∨ x % 16 > 0x09 ↔ daaLow a false h = true := by
      simp only [hx, daaLow, Bool.false_eq_true, if_false, Bool.or_eq_true, decide_eq_true_eq]
      exact or_congr_right (by omega)
    have kept : ((a.toNat : Int) + 0x60) % 16 = a.toNat % 16 := by omega
    cases hc : daaHigh a false cy with
    | true =>
      simp only [daaAdjust, daaSum, high, hc, if_true, low _ kept]
      cases daaLow a false h <;> simp [add_assoc]
    | false =>
      obtain ⟨carry, -⟩ : cy = false ∧ a.toNat ≤ 0x99 := by simpa [daaHigh] using hc
      simp only [daaAdjust, daaSum, high, hc, if_true, if_false, Bool.false_eq_true, low _ rfl]
      cases daaLow a false h <;> simp [carry]
  | true => cases cy <;> cases h <;> simp [daaAdjust, daaSum, daaHigh, daaLow, sub_sub]

end

theorem runs_daa (s : State) :
    Runs .daa s (fun t => Computes s t .a (daaSum s.a s.nf s.hf s.cf % 256)
      (decide (daaSum s.a s.nf s.hf s.cf % 256 = 0)) s.nf false (daaHigh s.a s.nf s.cf) 4) := by
  refine runs_of_updateReg rfl ((daaOut_res s.a s.cf s.nf s.hf).trans ?_) ?_
  · rw [daaAdjust_eq]
  · rw [daaOut, daaAdjust_eq]

/-- Settles O22: the statement's corrected value and Cy are `daaSum` and `daaHigh`. -/
theorem decimalAdjust : Obligations.DecimalAdjust := fun s => ⟨rfl, runs_daa s⟩

/-! ## Decimal digits -/

theorem bcd_of_digits {w : Byte} {x hi lo q : Int} (hhi : 0 ≤ hi ∧ hi ≤ 9) (hlo : 0 ≤ lo ∧ lo ≤ 9)
    (hw : (w.toNat : Int) = 16 * hi + lo) (hx : x = 10 * hi + lo + 100 * q) :
    isBcd w ∧ (bcdValue w : Int) = x % 100 := by
  unfold isBcd bcdValue
  omega

section
variable {a v r w : Byte} {cin : Bool} (ha : isBcd a) (hv : isBcd v)
include ha hv

/-- After an addition of decimal operands DAA corrects the high digit iff the decimal sum carries. -/
theorem daaHigh_of_sum (hr : r.toNat = (a.toNat + v.toNat + cin.toNat) % 256) :
    daaHigh r false (decide (a.toNat + v.toNat + cin.toNat > 0xFF)) =
      decide (bcdValue a + bcdValue v + cin.toNat > 99) := by
  have := cin.toNat_le
  unfold isBcd at ha hv
  simp only [daaHigh, bcdValue, Bool.false_eq_true, if_false, ← Bool.decide_or]
  exact decide_eq_decide.2 (by omega)

/-- And it corrects the low digit iff the low digits carry. -/
theorem daaLow_of_sum (hr : r.toNat = (a.toNat + v.toNat + cin.toNat) % 256) :
    daaLow r false (decide (a.toNat % 16 + v.toNat % 16 + cin.toNat > 0x0F)) =
      decide (a.toNat % 16 + v.toNat % 16 + cin.toNat > 9) := by
  have := cin.toNat_le
  unfold isBcd at ha hv
  simp only [daaLow, Bool.false_eq_true, if_false, ← Bool.decide_or]
  exact decide_eq_decide.2 (by omega)

/-- A subtraction of decimal operands borrows in binary iff it does in decimal. -/
theorem borrow_iff :
    (a.toNat : Int) - v.toNat - cin.toNat < 0 ↔ (bcdValue a : Int) - bcdValue v - cin.toNat < 0 := by
  have := cin.toNat_le
  unfold isBcd at ha hv
  unfold bcdValue
  omega

/-- A corrected sum, digit by digit: what carries out of the low digit goes to the high one. -/
theorem bcdValue_of_sum (hr : r.toNat = (a.toNat + v.toNat + cin.toNat) % 256)
    (hw : (w.toNat : Int) = daaSum r false (decide (a.toNat % 16 + v.toNat % 16 + cin.toNat > 0x0F))
      (decide (a.toNat + v.toNat + cin.toNat > 0xFF)) % 256) :
    isBcd w ∧ (bcdValue w : Int) = ((bcdValue a : Int) + bcdValue v + cin.toNat) % 100 := by
  rw [daaSum, daaHigh_of_sum ha hv hr, daaLow_of_sum ha hv hr] at hw
  have := cin.toNat_le
  unfold isBcd at ha hv
  unfold bcdValue at hw
  generalize hhalf : decide (a.toNat % 16 + v.toNat % 16 + cin.toNat > 9) = half at hw
  generalize hcarry : decide (_ > 99) = carry at hw
  have digits := bcd_of_digits (w := w) (x := bcdValue a + bcdValue v + cin.toNat)
    (hi := a.toNat / 16 + v.toNat / 16 + half.toNat - 10 * carry.toNat)
    (lo := a.toNat % 16 + v.toNat % 16 + cin.toNat - 10 * half.toNat) (q := carry.toNat)
  unfold bcdValue at digits ⊢
  cases half <;> cases carry <;>
  · simp only [decide_eq_true_eq, decide_eq_false_iff_not, Bool.false_eq_true, if_true, if_false, Bool.toNat_true,
      Bool.toNat_false] at hhalf hcarry hw digits
    exact digits (by omega) (by omega) (by omega) (by omega)

/-- A corrected difference, digit by digit: what the low digit borrows is taken from the high one. -/
theorem bcdValue_of_difference (hr : (r.toNat : Int) = ((a.toNat : Int) - v.toNat - cin.toNat) % 256)
    (hw : (w.toNat : Int) = daaSum r true (decide (a.toNat % 16 < v.toNat % 16 + cin.toNat))
      (decide ((a.toNat : Int) - v.toNat - cin.toNat < 0)) % 256) :
    isBcd w ∧ (bcdValue w : Int) = ((bcdValue a : Int) - bcdValue v - cin.toNat) % 100 := by
  simp only [daaSum, daaHigh, daaLow, if_true] at hw
  have := cin.toNat_le
  unfold isBcd at ha hv
  generalize hhalf : decide (a.toNat % 16 < v.toNat % 16 + cin.toNat) = half at hw
  generalize hborrow : decide ((_ : Int) < 0) = borrow at hw
  have digits := bcd_of_digits (w := w) (x := bcdValue a - bcdValue v - cin.toNat)
    (hi := a.toNat / 16 - v.toNat / 16 - half.toNat + 10 * borrow.toNat)
    (lo := a.toNat % 16 - v.toNat % 16 - cin.toNat + 10 * half.toNat) (q := -borrow.toNat)
  unfold bcdValue at digits ⊢
  cases half <;> cases borrow <;>
  · simp only [decide_eq_true_eq, decide_eq_false_iff_not, Bool.false_eq_true, if_true, if_false, Bool.toNat_true,
      Bool.toNat_false] at hhalf hborrow hw digits
    exact digits (by omega) (by omega) (by omega) (by omega)

end

/-! ## Decimal arithmetic -/

/-- `i` and then DAA leave the two digits of `x` in A and its decimal carry or borrow in Cy. -/
def ThenDaaLeaves (s : State) (i : Instr) (x : Int) : Prop :=
  ∃ t u, exec i s = .next t ∧ exec .daa t = .next u ∧
    isBcd u.a ∧ (bcdValue u.a : Int) = x % 100 ∧ u.f.getLsbD 4 = decide (x < 0 ∨ x > 99)

section
variable {s : State} {i : Instr} {v : Byte} {cin z : Bool} {k : Int} (ha : isBcd s.a) (hv : isBcd v)
include ha hv

theorem thenDaaLeaves_sum
    (run : Runs i s (fun t => Computes s t .a (((s.a.toNat + v.toNat + cin.toNat) % 256 : Nat) : Int) z false
      (decide (s.a.toNat % 16 + v.toNat % 16 + cin.toNat > 0x0F))
      (decide (s.a.toNat + v.toNat + cin.toNat > 0xFF)) k)) :
    ThenDaaLeaves s i (bcdValue s.a + bcdValue v + cin.toNat) := by
  obtain ⟨t, run, ⟨sum, ⟨-, hn, hh, hcy, -⟩, -, -, -⟩⟩ := run
  obtain ⟨u, daa, ⟨adjusted, ⟨-, -, -, carry, -⟩, -, -, -⟩⟩ := runs_daa t
  have ta : t.a.toNat = (s.a.toNat + v.toNat + cin.toNat) % 256 := Int.ofNat_inj.1 sum
  rw [State.nf, State.hf, State.cf, hn, hh, hcy] at adjusted
  rw [State.nf, State.cf, hn, hcy, daaHigh_of_sum ha hv ta] at carry
  obtain ⟨bcd, value⟩ := bcdValue_of_sum ha hv ta adjusted
  exact ⟨t, u, run, daa, bcd, value, carry.trans (decide_eq_decide.2 (by omega))⟩

theorem thenDaaLeaves_difference
    (run : Runs i s (fun t => Computes s t .a (((s.a.toNat : Int) - v.toNat - cin.toNat) % 256) z true
      (decide (s.a.toNat % 16 < v.toNat % 16 + cin.toNat)) (decide ((s.a.toNat : Int) - v.toNat - cin.toNat < 0)) k)) :
    ThenDaaLeaves s i (bcdValue s.a - bcdValue v - cin.toNat) := by
  obtain ⟨t, run, ⟨difference, ⟨-, hn, hh, hcy, -⟩, -, -, -⟩⟩ := run
  obtain ⟨u, daa, ⟨adjusted, ⟨-, -, -, borrow, -⟩, -, -, -⟩⟩ := runs_daa t
  rw [State.nf, State.hf, State.cf, hn, hh, hcy] at adjusted
  rw [State.nf, State.cf, hn, hcy] at borrow
  obtain ⟨bcd, value⟩ := bcdValue_of_difference ha hv difference adjusted
  have small : bcdValue s.a ≤ 99 := by
    unfold isBcd at ha
    unfold bcdValue
    omega
  refine ⟨t, u, run, daa, bcd, value, borrow.trans (decide_eq_decide.2 ((borrow_iff ha hv).trans ?_))⟩
  omega

end

/-- Settles O23: the four operations are those of O17 and O18, and the digits of what DAA makes of them are known. -/
theorem decimalArithmetic : Obligations.DecimalArithmetic := by
  intro s op v hop ha hv cin x
  obtain ⟨⟨-, -, add⟩, ⟨-, -, adc⟩⟩ := addForms s
  obtain ⟨⟨-, -, sub⟩, ⟨-, -, sbc⟩⟩ := subForms s
  have carryIn (b : Bool) : (if b = true then 1 else 0 : Int) = b.toNat := by cases b <;> rfl
  show ThenDaaLeaves s (.aluImm op v) x
  simp only [List.mem_cons, List.not_mem_nil, or_false] at hop
  obtain rfl | rfl | rfl | rfl := hop
  · exact thenDaaLeaves_sum ha hv (add v).2
  · have hx : x = bcdValue s.a + bcdValue v + (s.f.getLsbD 4).toNat := by simp [x, cin, carryIn]
    rw [hx]
    exact thenDaaLeaves_sum ha hv (adc v).2
  · exact thenDaaLeaves_difference ha hv (sub v).2
  · have hx : x = bcdValue s.a - bcdValue v - (s.f.getLsbD 4).toNat := by simp [x, cin, carryIn]
    rw [hx]
    exact thenDaaLeaves_difference ha hv (sbc v).2

end Sys2Proof.Machine
end

section
/-! PROOFS. 16-bit arithmetic: the numbers its sums are, and the forms of each operation with their encodings. -/

namespace Sys2Proof.Machine

section
variable (s : State) (p : Reg16)

/-! ## The encodings -/

theorem encode_addHl : encode (.addHl p) = [BitVec.ofNat 8 (0x09 + 16 * p.code)] := by cases p <;> rfl

theorem encode_incPair : encode (.incPair p) = [BitVec.ofNat 8 (0x03 + 16 * p.code)] := by cases p <;> rfl

theorem encode_decPair : encode (.decPair p) = [BitVec.ofNat 8 (0x0B + 16 * p.code)] := by cases p <;> rfl

/-! ## A pair and its neighbours -/

theorem add_one_eq_ofNat (w : Word) : w + 1 = BitVec.ofNat 16 ((w.toNat + 1) % 0x10000) :=
  BitVec.eq_of_toNat_eq (by rw [BitVec.toNat_add, BitVec.toNat_ofNat, Nat.mod_mod]; rfl)

/-- One less is 0xFFFF more modulo 0x10000. -/
theorem sub_one_eq_ofNat (w : Word) : w - 1 = BitVec.ofNat 16 ((w.toNat + 0xFFFF) % 0x10000) :=
  BitVec.eq_of_toNat_eq (by rw [BitVec.toNat_sub, BitVec.toNat_ofNat, Nat.mod_mod, add_comm]; rfl)

theorem runs_incPair : Runs (.incPair p) s (fun t => LoadsPair s t p (s.reg16 p + 1) 8) :=
  runs_of_setReg16 (exec_incPair s p)

theorem runs_decPair : Runs (.decPair p) s (fun t => LoadsPair s t p (s.reg16 p - 1) 8) :=
  runs_of_setReg16 (exec_decPair s p)

/-! ## The addition to HL -/

/-- HL receives the sum and F keeps its Z, and nothing else changes (R231). -/
theorem runs_addHl :
    Runs (.addHl p) s (fun t =>
      t.hl = (add16 s.hl (s.reg16 p)).res ∧
      HasFlags t s.zf false (add16 s.hl (s.reg16 p)).h (add16 s.hl (s.reg16 p)).cy ∧
      t = { s with h := t.h, l := t.l, f := t.f, budget := s.budget - 8 } ∧ SameReads s t) := by
  refine ⟨_, exec_addHl s p, ?_, hasFlags_of_f _ _ _ _ rfl, rfl, sameReads_of rfl⟩
  rw [hl_spend, hl_setFlags, hl_setHl]

end

/-- Settles O25: HL receives the sum `add16`, and a pair steps to the word one above or below it. -/
theorem pairArithmeticForms : Obligations.PairArithmeticForms := by
  intro s p x y
  obtain ⟨t, run, sum, changes⟩ := runs_addHl s p
  refine ⟨⟨encode_addHl p, t, run, ?_, changes⟩, ⟨encode_incPair p, ?_⟩, ⟨encode_decPair p, ?_⟩⟩
  · rw [sum]
    exact add16_res s.hl (s.reg16 p)
  · rw [← add_one_eq_ofNat]
    exact runs_incPair s p
  · rw [← sub_one_eq_ofNat]
    exact runs_decPair s p

end Sys2Proof.Machine
end

section
/-! PROOFS. Rotates, shifts and single bits: the bits of each result, and the forms of each operation with their
encodings. -/

namespace Sys2Proof.Machine

section
variable (v : Byte) (k : Fin 8) (op : RotOp) (r : Reg8)

/-! ## The bits of a result -/

/-- The bit `b` enters at the bottom and the others move up. -/
theorem getLsbD_shiftedUp {x : BitVec 1} {b : Bool} (bit : x.getLsbD 0 = b) (i : Nat) (h : i < 8) :
    (v.extractLsb' 0 7 ++ x).getLsbD i = if i = 0 then b else v.getLsbD (i - 1) := by
  rw [BitVec.getLsbD_append, ← bit]
  obtain rfl | pos := Nat.eq_zero_or_pos i
  · rfl
  · rw [if_neg (by omega), if_neg (by omega), BitVec.getLsbD_extractLsb', decide_eq_true (by omega), zero_add,
      Bool.true_and]

/-- The bit `b` enters at the top and the others move down. -/
theorem getLsbD_shiftedDown {x : BitVec 1} {b : Bool} (bit : x.getLsbD 0 = b) (i : Nat) (h : i < 8) :
    (x ++ v.extractLsb' 1 7).getLsbD i = if i = 7 then b else v.getLsbD (i + 1) := by
  rw [BitVec.getLsbD_append, ← bit]
  obtain rfl | low : i = 7 ∨ i < 7 := by omega
  · rfl
  · rw [if_pos low, if_neg (by omega), BitVec.getLsbD_extractLsb', decide_eq_true low, add_comm, Bool.true_and]

theorem getLsbD_singleBit (i : Nat) : (v.extractLsb' i 1).getLsbD 0 = v.getLsbD i := by
  rw [BitVec.getLsbD_extractLsb', decide_eq_true Nat.one_pos, Bool.true_and, add_zero]

/-- The two nibbles change places. -/
theorem getLsbD_swapped (i : Nat) (h : i < 8) :
    (v.extractLsb' 0 4 ++ v.extractLsb' 4 4).getLsbD i = v.getLsbD ((i + 4) % 8) := by
  simp only [BitVec.getLsbD_append, BitVec.getLsbD_extractLsb']
  split
  · simp [*, show (i + 4) % 8 = 4 + i by omega]
  · simp [show i - 4 < 4 by omega, show (i + 4) % 8 = i - 4 by omega]

/-- Seven of the routines shift by one place, and differ in the direction and in the bit that enters. -/
theorem isRotated_rotate (cy : Bool) : IsRotated op v cy (rotate op v cy).1 := by
  intro i h
  have carry : (BitVec.ofBool cy).getLsbD 0 = cy := by cases cy <;> rfl
  cases op with
  | rl => exact getLsbD_shiftedUp v carry i h
  | rr => exact getLsbD_shiftedDown v carry i h
  | sla => exact getLsbD_shiftedUp v rfl i h
  | srl => exact getLsbD_shiftedDown v rfl i h
  | sra => exact getLsbD_shiftedDown v (getLsbD_singleBit v 7) i h
  | swap => exact getLsbD_swapped v i h
  | rlc =>
    refine (getLsbD_shiftedUp v (getLsbD_singleBit v 7) i h).trans ?_
    obtain rfl | pos := Nat.eq_zero_or_pos i
    · rfl
    · rw [if_neg (by omega), rotatedBit, show (i + 7) % 8 = i - 1 by omega]
  | rrc =>
    refine (getLsbD_shiftedDown v (getLsbD_singleBit v 0) i h).trans ?_
    obtain rfl | low : i = 7 ∨ i < 7 := by omega
    · rfl
    · rw [if_neg (by omega), rotatedBit, Nat.mod_eq_of_lt (by omega)]

theorem rotate_carry (cy : Bool) : (rotate op v cy).2 = rotatedCarry op v := by cases op <;> rfl

theorem getLsbD_bitMask (i : Nat) : (bitMask k).getLsbD i = decide (i = k) := by
  refine (BitVec.getLsbD_twoPow k.val i).trans ?_
  rw [decide_eq_true k.isLt, Bool.true_and]
  exact decide_eq_decide.2 eq_comm

theorem isWithBit_reset : IsWithBit v k false (v &&& ~~~bitMask k) := by
  intro i h
  rw [BitVec.getLsbD_and, BitVec.getLsbD_not, getLsbD_bitMask, decide_eq_true h]
  split <;> simp [*]

theorem isWithBit_set : IsWithBit v k true (v ||| bitMask k) := by
  intro i h
  rw [BitVec.getLsbD_or, getLsbD_bitMask]
  split <;> simp [*]

/-! ## The encodings -/

theorem encode_rotReg : encode (.rotReg op r) = [0xCB, BitVec.ofNat 8 (8 * op.code + r.code)] := by
  cases op <;> cases r <;> rfl

theorem encode_rotHl : encode (.rotHl op) = [0xCB, BitVec.ofNat 8 (8 * op.code + 6)] := by cases op <;> rfl

theorem encode_bitReg : encode (.bitReg k r) = [0xCB, BitVec.ofNat 8 (0x40 + 8 * k.val + r.code)] := by
  fin_cases k <;> cases r <;> rfl

theorem encode_bitHl : encode (.bitHl k) = [0xCB, BitVec.ofNat 8 (0x46 + 8 * k.val)] := by fin_cases k <;> rfl

theorem encode_resReg : encode (.resReg k r) = [0xCB, BitVec.ofNat 8 (0x80 + 8 * k.val + r.code)] := by
  fin_cases k <;> cases r <;> rfl

theorem encode_resHl : encode (.resHl k) = [0xCB, BitVec.ofNat 8 (0x86 + 8 * k.val)] := by fin_cases k <;> rfl

theorem encode_setReg : encode (.setReg k r) = [0xCB, BitVec.ofNat 8 (0xC0 + 8 * k.val + r.code)] := by
  fin_cases k <;> cases r <;> rfl

theorem encode_setHl : encode (.setHl k) = [0xCB, BitVec.ofNat 8 (0xC6 + 8 * k.val)] := by fin_cases k <;> rfl

end

/-! ## Rotates, shifts and swap -/

/-- The flags of a rotate of the prefixed page: Z of the result, Cy the bit shifted out (R240). -/
theorem mkF_rotOut (op : RotOp) (v : Byte) (cy : Bool) :
    mkF (rotOut op v cy).z (rotOut op v cy).n (rotOut op v cy).h (rotOut op v cy).cy =
      mkF (decide ((rotOut op v cy).res = 0)) false false (rotatedCarry op v) :=
  congrArg (mkF _ _ _) (rotate_carry v op cy)

/-- A rotate of A writes a result and flags as an ALU operation does, with Z forced to 0 (R240). -/
theorem runs_of_rotateA {s : State} {i : Instr} {op : RotOp} (run : exec i s = rotateA op s) :
    Runs i s (fun t => IsRotated op s.a s.cf t.a ∧
      Computes s t .a t.a.toNat false false false (rotatedCarry op s.a) 4) :=
  ⟨_, run, isRotated_rotate s.a op s.cf,
    computes_putFlags_spend (o := ⟨_, false, false, false, _⟩) s .a 4 rfl
      (congrArg (mkF _ _ _) (rotate_carry s.a op s.cf))⟩

/-- Settles O26: each is a rotate of A, whose bits are known. -/
theorem rotateAForms : Obligations.RotateAForms := fun _ =>
  ⟨⟨rfl, runs_of_rotateA rfl⟩, ⟨rfl, runs_of_rotateA rfl⟩, ⟨rfl, runs_of_rotateA rfl⟩, rfl, runs_of_rotateA rfl⟩

/-- Settles O27: the register receives the result of `rotOut`, and the flags are those of that result. -/
theorem rotateRegisterForms : Obligations.RotateRegisterForms := by
  intro s op r
  obtain ⟨t, run, computes⟩ := runs_of_updateReg (exec_rotReg s op r) rfl (mkF_rotOut op (s.reg8 r) s.cf)
  have result : t.reg8 r = (rotOut op (s.reg8 r) s.cf).res := BitVec.eq_of_toNat_eq (Int.ofNat.inj computes.value)
  refine ⟨encode_rotReg op r, t, run, ?_, ?_⟩ <;> rw [result]
  · exact isRotated_rotate _ op s.cf
  · exact computes

/-- Settles O28: the byte stored is the result of `rotOut` on the byte read. -/
theorem rotateMemoryForms : Obligations.RotateMemoryForms := fun s op =>
  ⟨encode_rotHl op, _, exec_rotHl s op, _, isRotated_rotate _ op s.cf,
    storesFlags_putFlags_spend s s.hl 16 (mkF_rotOut op _ s.cf)⟩

/-! ## Single bits -/

/-- Settles O29: BIT writes the flags and nothing else. -/
theorem bitTestForms : Obligations.BitTestForms := fun s k =>
  ⟨fun r => ⟨encode_bitReg k r, _, exec_bitReg s k r, flagsOnly_setFlags_spend s _ _ _ _ 8⟩,
    encode_bitHl k, _, exec_bitHl s k, flagsOnly_setFlags_spend s _ _ _ _ 12⟩

/-- A load of a byte of which `P` holds leaves such a byte in the register. -/
theorem runs_of_loadReg_of {s : State} {i : Instr} {r : Reg8} {v : Byte} {k : Int} {P : Byte → Prop}
    (run : exec i s = loadReg r v k s) (holds : P v) :
    Runs i s (fun t => P (t.reg8 r) ∧ Loads s t r (t.reg8 r) k) := by
  obtain ⟨t, run, loads⟩ := runs_of_loadReg run
  refine ⟨t, run, ?_, ?_⟩ <;> rw [loads.value]
  · exact holds
  · exact loads

/-- Settles O30: RES and SET load or store the byte with the one bit replaced. -/
theorem resetSetForms : Obligations.ResetSetForms := fun s k =>
  ⟨fun r => ⟨⟨encode_resReg k r, runs_of_loadReg_of (exec_resReg s k r) (isWithBit_reset _ k)⟩,
      encode_setReg k r, runs_of_loadReg_of (exec_setReg s k r) (isWithBit_set _ k)⟩,
    ⟨encode_resHl k, _, exec_resHl s k, _, isWithBit_reset _ k, stores_memWrite_spend s s.hl _ 16⟩,
    encode_setHl k, _, exec_setHl s k, _, isWithBit_set _ k, stores_memWrite_spend s s.hl _ 16⟩

end Sys2Proof.Machine
end

section
/-! PROOFS. Jumps, calls and returns: what each of their three shared operations does, the encodings, and the one rule
of every conditional form. -/

namespace Sys2Proof.Machine

section
variable {s : State} {i : Instr} {pc : Word} {k : Int}

/-! ## The three operations -/

theorem goes_withPc_spend (s : State) (pc : Word) (k : Int) : Goes s (State.spend { s with pc := pc } k) pc k :=
  ⟨rfl, sameReads_of rfl⟩

theorem runs_of_jumpTo (run : exec i s = jumpTo pc k s) : Runs i s (fun t => Goes s t pc k) :=
  ⟨_, run, goes_withPc_spend s pc k⟩

theorem runs_of_callTo (run : exec i s = callTo pc k s) : Runs i s (fun t => Pushes s t s.pc pc k) :=
  ⟨_, run, pushes_push16_spend s s.pc pc k⟩

/-- A state whose PC is `popValue` and whose SP is past its two bytes is that of a return (R67). -/
theorem returns_of_pc {t : State} (value : t.pc = popValue s)
    (frame : t = { s with pc := t.pc, sp := s.sp + 2, budget := s.budget - k }) : Returns s t k where
  low := value ▸ lo8_popValue s
  high := value ▸ hi8_popValue s
  frame := ⟨frame, sameReads_of (by rw [frame]; rfl)⟩

theorem returns_popped_spend (s : State) (k : Int) :
    Returns s (State.spend { popped s with pc := popValue s } k) k :=
  returns_of_pc rfl rfl

theorem runs_of_returnFrom (run : exec i s = returnFrom k s) : Runs i s (fun t => Returns s t k) :=
  ⟨_, run, returns_popped_spend s k⟩

/-- The bus looks at neither IME nor the inhibition, so RETI pops what RET would have popped (R280). -/
theorem popValue_withIme (s : State) (ime inhibit : Bool) :
    popValue { s with ime := ime, eiInhibit := inhibit } = popValue s :=
  congrArg₂ mkWord (sameReads_of rfl _) (sameReads_of rfl _)

/-- RETI is a return of the machine in which IME and the inhibition are already set (R280). -/
theorem returns_interruptReturn_spend (s : State) (k : Int) :
    Returns { s with ime := true, eiInhibit := true } ((interruptReturn s).spend k) k :=
  returns_of_pc (popValue_withIme s true true).symm rfl

/-! ## The conditional forms -/

/-- A conditional instruction does what its unconditional form does, or only spends the ticks of the untaken form
(R270). -/
theorem runs_of_cond {cc : Cond} {taken : Res} {P : State → Prop}
    (run : exec i s = if s.cond cc then taken else .next (s.spend k)) (holds : ∃ t, taken = .next t ∧ P t) :
    Runs i s (fun t => if condHolds s cc then P t else Goes s t s.pc k) := by
  rw [cond_eq_condHolds] at run
  cases h : condHolds s cc with
  | true =>
    obtain ⟨t, next, post⟩ := holds
    exact ⟨t, by rw [run, h, if_pos rfl, next], post⟩
  | false => exact ⟨s.spend k, by rw [run, h, if_neg Bool.false_ne_true], goes_withPc_spend s s.pc k⟩

end

/-! ## Encodings -/

theorem encode_jpCc (cc : Cond) (lo hi : Byte) :
    encode (.jpCc cc (hi ++ lo)) = [BitVec.ofNat 8 (0xC2 + 8 * cc.code), lo, hi] := by
  cases cc <;> exact immediateWord_bytes _ lo hi

theorem encode_jrCc (cc : Cond) (e : Byte) : encode (.jrCc cc e) = [BitVec.ofNat 8 (0x20 + 8 * cc.code), e] := by
  cases cc <;> rfl

theorem encode_callCc (cc : Cond) (lo hi : Byte) :
    encode (.callCc cc (hi ++ lo)) = [BitVec.ofNat 8 (0xC4 + 8 * cc.code), lo, hi] := by
  cases cc <;> exact immediateWord_bytes _ lo hi

theorem encode_retCc (cc : Cond) : encode (.retCc cc) = [BitVec.ofNat 8 (0xC0 + 8 * cc.code)] := by cases cc <;> rfl

theorem encode_rst (y : Fin 8) : encode (.rst y) = [BitVec.ofNat 8 (0xC7 + 8 * y.val)] := by fin_cases y <;> rfl

/-! ## The forms -/

/-- Settles O31: each form is a `jumpTo`, and a relative one goes from the PC after the fetch by the signed
displacement. -/
theorem jumpForms : Obligations.JumpForms := by
  intro s
  refine ⟨fun lo hi => ⟨immediateWord_bytes 0xC3 lo hi, runs_of_jumpTo rfl⟩,
    fun cc lo hi => ⟨encode_jpCc cc lo hi, runs_of_cond (exec_jpCc s cc _) ⟨_, rfl, goes_withPc_spend s _ 16⟩⟩,
    ⟨rfl, runs_of_jumpTo rfl⟩, fun e => ⟨rfl, ?_⟩, fun cc e => ⟨encode_jrCc cc e, ?_⟩⟩ <;> rw [← add_sext16]
  · exact runs_of_jumpTo rfl
  · exact runs_of_cond (exec_jrCc s cc e) ⟨_, rfl, goes_withPc_spend s _ 12⟩

/-- Settles O32: each form is a `callTo`, which pushes PC and jumps. -/
theorem callForms : Obligations.CallForms := fun s =>
  ⟨fun lo hi => ⟨immediateWord_bytes 0xCD lo hi, runs_of_callTo rfl⟩,
    fun cc lo hi =>
      ⟨encode_callCc cc lo hi, runs_of_cond (exec_callCc s cc _) ⟨_, rfl, pushes_push16_spend s s.pc _ 24⟩⟩,
    fun y => ⟨encode_rst y, runs_of_callTo (exec_rst s y)⟩⟩

/-- Settles O33: RET and its conditional forms are a `returnFrom`, and RETI returns with IME and the inhibition set. -/
theorem returnForms : Obligations.ReturnForms := fun s =>
  ⟨⟨rfl, runs_of_returnFrom rfl⟩,
    fun cc => ⟨encode_retCc cc, runs_of_cond (exec_retCc s cc) ⟨_, rfl, returns_popped_spend s 20⟩⟩,
    rfl, _, rfl, rfl, rfl, returns_interruptReturn_spend s 16⟩

end Sys2Proof.Machine
end

section
/-! PROOFS. The system instructions: NOP, DI, EI and HALT; the step of the CPU by what its interrupt check answers, and
with it the halted state of STOP; the invalid opcodes. -/

namespace Sys2Proof.Machine

/-! ## NOP, DI, EI and HALT -/

/-- Settles O34: each is its encoding and its whole next state, as the model writes them. -/
theorem nopDiEi : Obligations.NopDiEi := fun _ => ⟨⟨rfl, rfl⟩, ⟨rfl, rfl⟩, rfl, rfl⟩

section
variable {s : State}

theorem haltArmsBug_of_imeClear (h : s.params.haltBugCond = .imeClear) : haltArmsBug s = !s.ime := by
  simp only [haltArmsBug, h]

theorem isPending_eq_decide (s : State) : s.isPending = decide (s.pendingArmed ≠ 0) := decide_not.symm

theorem haltArmsBug_of_imeClearAndPending (h : s.params.haltBugCond = .imeClearAndPending) :
    haltArmsBug s = (!s.ime && decide (s.pendingArmed ≠ 0)) := by
  simp only [haltArmsBug, h, isPending_eq_decide]

end

/-- Settles O35: the halt bug is armed by `haltArmsBug`, whose value under each `HALT_BUG_COND` is known. -/
theorem haltInstruction : Obligations.HaltInstruction := fun s =>
  ⟨rfl, (enterHalt s).spend 4, rfl, rfl, sameReads_of rfl,
    fun cond => congrArg (s.haltBug || ·) (haltArmsBug_of_imeClear cond),
    fun cond => congrArg (s.haltBug || ·) (haltArmsBug_of_imeClearAndPending cond)⟩

/-! ## The step, by what the interrupt check answers -/

section
variable {s t : State}

/-- The one check after EI or RETI is skipped (R322). -/
theorem interruptCheck_of_inhibited (inhibited : s.eiInhibit = true) :
    interruptCheck s = .goOn { s with eiInhibit := false } := if_pos inhibited

/-- Otherwise the check is made after the wake test (R322). -/
theorem interruptCheck_of_quiet (quiet : s.eiInhibit = false) :
    interruptCheck s =
      if accepts (wakeUp s) then .entered ((interruptEntry (wakeUp s)).spend 20) else .goOn (wakeUp s) :=
  if_neg (Bool.eq_false_iff.1 quiet)

theorem step_of_entered (moves : CpuMoves s) (check : interruptCheck s = .entered t) : step s = .next t := by
  rw [step_of_empty s moves.schedule]
  simp only [cpuStep, moves.fault, check]

theorem step_of_goOn (moves : CpuMoves s) (check : interruptCheck s = .goOn t) :
    step s = if t.halted then .next (t.spend 4) else executeOne t := by
  rw [step_of_empty s moves.schedule]
  simp only [cpuStep, moves.fault, check]

end

/-! ## STOP -/

section
variable {s : State}

theorem stopOp_of_refuse (h : s.params.stopBehaviour = .refuse) : stopOp s = .refused .stopRefused := by
  simp only [stopOp, h]

theorem stopOp_of_nop2 (h : s.params.stopBehaviour = .nop2) : stopOp s = .next (s.spend 4) := by
  simp only [stopOp, h]

theorem stopOp_of_haltLike (h : s.params.stopBehaviour = .haltLike) :
    stopOp s = .next (State.spend { s with halted := true, joypadWakeOnly := true } 4) := by
  simp only [stopOp, h]

theorem and_joypadBit_ne_zero_iff (x : BitVec 5) : x &&& 0b10000 ≠ 0 ↔ x.getLsbD 4 = true := by
  revert x
  decide

/-- In the halted state of STOP, `HALT_WAKE`'s test looks at the joypad's request alone (R292, R326). -/
theorem wakes_iff_of_joypadWakeOnly (stop : s.joypadWakeOnly = true) :
    wakes s = true ↔ s.iflag.getLsbD 4 = true ∧ (s.params.haltWake = .ifAny ∨ s.ie.getLsbD 4 = true) := by
  have sources : wakeSources s = 0b10000 := if_pos stop
  unfold wakes
  rw [sources]
  cases cond : s.params.haltWake with
  | ifAny =>
    rw [bne_iff_ne, and_joypadBit_ne_zero_iff]
    simp
  | ieAndIf =>
    rw [bne_iff_ne, and_joypadBit_ne_zero_iff, getLsbD_pendingArmed s (by decide)]
    simp [and_comm]

/-- Until it wakes, that state accepts no interrupt, whatever is requested and armed (log 10). -/
theorem accepts_of_joypadWakeOnly (halted : s.halted = true) (stop : s.joypadWakeOnly = true) : accepts s = false := by
  simp [accepts, halted, stop]

theorem accepts_iff_of_awake (awake : s.halted = false) :
    accepts s = true ↔ s.ime = true ∧ ∃ i, i < 5 ∧ s.iflag.getLsbD i = true ∧ s.ie.getLsbD i = true := by
  simp only [accepts, awake, Bool.false_and, Bool.not_false, Bool.and_true, Bool.and_eq_true, isPending_iff,
    and_comm (a := s.ie.getLsbD _ = true)]

theorem wakeUp_of_wakes (halted : s.halted = true) (wake : wakes s = true) :
    wakeUp s = { s with halted := false, joypadWakeOnly := false } := if_pos (by rw [halted, wake]; rfl)

theorem wakeUp_of_not_wakes (asleep : wakes s = false) : wakeUp s = s := by simp [wakeUp, asleep]

/-- Interrupt entry clears the two halted flags itself, so it does the same to a machine just woken (R320). -/
theorem interruptEntry_awake (s : State) :
    interruptEntry { s with halted := false, joypadWakeOnly := false } = interruptEntry s := rfl

end

/-- Settles O36: STOP is `stopOp`, and its halted state goes on as the interrupt check says, which accepts nothing until
the joypad's request wakes the machine. -/
theorem stopInstruction : Obligations.StopInstruction := by
  intro s n
  refine ⟨rfl, stopOp_of_refuse, stopOp_of_nop2, stopOp_of_haltLike, fun moves halted stop => ?_⟩
  have wakes_iff := wakes_iff_of_joypadWakeOnly stop
  have accepts_iff := accepts_iff_of_awake (s := { s with halted := false, joypadWakeOnly := false }) rfl
  refine ⟨fun inhibited => ?_, fun quiet asleep => ?_, fun quiet wake ime armed => ?_, fun quiet wake refused => ?_⟩
  · rw [step_of_goOn moves (interruptCheck_of_inhibited inhibited)]
    exact if_pos halted
  · have check : interruptCheck s = .goOn s := by
      rw [interruptCheck_of_quiet quiet, wakeUp_of_not_wakes (Bool.eq_false_iff.2 (mt wakes_iff.1 asleep)),
        accepts_of_joypadWakeOnly halted stop]
      rfl
    rw [step_of_goOn moves check]
    exact if_pos halted
  · have check : interruptCheck s = .entered ((interruptEntry s).spend 20) := by
      rw [interruptCheck_of_quiet quiet, wakeUp_of_wakes halted (wakes_iff.2 wake), accepts_iff.2 ⟨ime, armed⟩,
        interruptEntry_awake]
      rfl
    rw [step_of_entered moves check, State.spend, interruptEntry_budget]
  · have check : interruptCheck s = .goOn { s with halted := false, joypadWakeOnly := false } := by
      rw [interruptCheck_of_quiet quiet, wakeUp_of_wakes halted (wakes_iff.2 wake)]
      exact if_neg (mt accepts_iff.1 refused)
    rw [step_of_goOn moves check]
    rfl

/-! ## The invalid opcodes -/

/-- The fetch of an invalid opcode moves PC past the one byte, or leaves it there under the halt bug (R102). -/
theorem step_of_fetches_invalid {s : State} {op : Byte} (mem : op ∈ invalidOpcodes) (fetches : Fetches s)
    (read : fetchRead s s.pc = op) :
    step s = exec (.illegal op) { s with
      eiInhibit := false, haltBug := false, pc0 := s.pc, pc := if s.haltBug then s.pc else s.pc + 1 } := by
  obtain ⟨length, decodes⟩ := Laws.RoundTrip.invalid_decodes op mem
  rw [step_of_fetches_eq fetches, read, length, decodes]
  simp [afterOpcode]

theorem step_of_fault {s : State} {f : InvalidOp} (schedule : s.schedule = []) (fault : s.fault = some f) :
    step s = .fault (.invalidOpcode f.pc f.op) :=
  (step_of_empty s schedule).trans (cpuStep_of_fault fault)

/-- Settles O37: the opcode decodes to `illegal`, which records the fault, and a recorded fault stops the next step. -/
theorem invalidOpcodeFaults : Obligations.InvalidOpcodeFaults := by
  intro s op mem
  refine ⟨rfl, rfl, fun fetches read => ⟨_, step_of_fetches_invalid mem fetches read, ?_, rfl, sameReads_of rfl⟩⟩
  exact step_of_fault (f := ⟨s.pc, op⟩) fetches.schedule rfl

end Sys2Proof.Machine
end

section
/-! PROOFS. The step of the CPU when it moves next: which of its branches the interrupt check selects, what interrupt
entry does, and which instructions write IME. -/

namespace Sys2Proof.Machine

/-! ## The interrupt check outside the halted state of STOP -/

section
variable {s t : State}

theorem cpuStep_of_entered (fault : s.fault = none) (check : interruptCheck s = .entered t) : cpuStep s = .next t := by
  simp only [cpuStep, fault, check]

theorem cpuStep_of_goOn (fault : s.fault = none) (check : interruptCheck s = .goOn t) :
    cpuStep s = if t.halted then .next (t.spend 4) else executeOne t := by
  simp only [cpuStep, fault, check]

theorem isPending_iff_requested (s : State) :
    s.isPending = true ↔ ∃ i, i < 5 ∧ s.iflag.getLsbD i = true ∧ s.ie.getLsbD i = true :=
  (isPending_iff s).trans (exists_congr fun _ => and_congr_right fun _ => and_comm)

/-- Outside the halted state of STOP, `HALT_WAKE`'s test looks at all five requests (R326). -/
theorem wakes_iff (running : s.joypadWakeOnly = false) :
    wakes s = true ↔
      s.params.haltWake = .ifAny ∧ (∃ i, i < 5 ∧ s.iflag.getLsbD i = true) ∨
      s.params.haltWake = .ieAndIf ∧ ∃ i, i < 5 ∧ s.iflag.getLsbD i = true ∧ s.ie.getLsbD i = true := by
  have sources : wakeSources s = BitVec.allOnes 5 := if_neg (Bool.eq_false_iff.1 running)
  unfold wakes
  rw [sources]
  cases cond : s.params.haltWake with
  | ifAny =>
    rw [bne_iff_ne, BitVec.and_allOnes, ne_zero_iff_getLsbD]
    simp
  | ieAndIf =>
    simp only [BitVec.and_allOnes]
    change s.isPending = true ↔ _
    simp [isPending_iff_requested]

/-- Whether an interrupt is accepted does not depend on the wake test before it (R322). -/
theorem accepts_wakeUp_iff (running : s.joypadWakeOnly = false) :
    accepts (wakeUp s) = true ↔ s.ime = true ∧ s.isPending = true := by
  unfold wakeUp
  split
  · simp [accepts, State.isPending, State.pendingArmed]
  · simp [accepts, running]

/-- Interrupt entry clears the two halted flags itself, whether the wake test did or not (R320). -/
theorem interruptEntry_wakeUp (s : State) : interruptEntry (wakeUp s) = interruptEntry s := by
  rw [wakeUp_eq]
  rfl

theorem interruptCheck_of_accepted (running : s.joypadWakeOnly = false) (quiet : s.eiInhibit = false)
    (accepted : s.ime = true ∧ s.isPending = true) : interruptCheck s = .entered ((interruptEntry s).spend 20) := by
  rw [interruptCheck_of_quiet quiet, if_pos ((accepts_wakeUp_iff running).2 accepted), interruptEntry_wakeUp]

theorem interruptCheck_of_refused (running : s.joypadWakeOnly = false) (quiet : s.eiInhibit = false)
    (refused : ¬ (s.ime = true ∧ s.isPending = true)) : interruptCheck s = .goOn (wakeUp s) := by
  rw [interruptCheck_of_quiet quiet, if_neg (mt (accepts_wakeUp_iff running).1 refused)]

theorem wakeUp_of_wakes_of_running (running : s.joypadWakeOnly = false) (halted : s.halted = true)
    (wake : wakes s = true) : wakeUp s = { s with halted := false } := by
  rw [wakeUp_of_wakes halted wake, ← running]

/-! ## The step -/

/-- The CPU moves next: the schedule is empty, or it has the CPU's move at its head, which is taken off (log 7). -/
theorem step_of_cpuNext (next : s.schedule = [] ∨ ∃ rest, s.schedule = .cpu :: rest) :
    step s = cpuStep { s with schedule := s.schedule.tail } := by
  obtain empty | ⟨rest, head⟩ := next
  · rw [step_of_empty s empty, empty, List.tail_nil, ← empty]
  · unfold step machineStep
    rw [head]
    rfl

end

/-- Settles O8: the inhibition, the acceptance and the wake test each select a branch of the check. -/
theorem cpuStepRule : Obligations.CpuStepRule := by
  intro s₀ next running s requested armed wake
  change s.joypadWakeOnly = false at running
  have pending : s.isPending = true ↔ armed := isPending_iff_requested s
  have wakes_iff : wakes s = true ↔ wake := wakes_iff running
  rw [step_of_cpuNext next]
  refine ⟨fun f hf => cpuStep_of_fault hf, fun fault => ?_⟩
  have inhibited (h : s.eiInhibit = true) := cpuStep_of_goOn fault (interruptCheck_of_inhibited h)
  have refused (quiet : s.eiInhibit = false) (h : ¬ (s.ime = true ∧ armed)) :=
    cpuStep_of_goOn fault (interruptCheck_of_refused running quiet (by rwa [pending]))
  refine ⟨fun h halted => ?_, fun h awake => ?_, fun quiet ime h => ?_, fun quiet h halted asleep => ?_,
    fun quiet h halted woken => ?_, fun quiet h awake => ?_⟩
  · rw [inhibited h]
    exact if_pos halted
  · rw [inhibited h]
    exact if_neg (Bool.eq_false_iff.1 awake)
  · rw [cpuStep_of_entered fault (interruptCheck_of_accepted running quiet ⟨ime, pending.2 h⟩), State.spend,
      interruptEntry_budget]
  · rw [refused quiet h, wakeUp_of_not_wakes (Bool.eq_false_iff.2 (mt wakes_iff.1 asleep))]
    exact if_pos halted
  · rw [refused quiet h, wakeUp_of_wakes_of_running running halted (wakes_iff.2 woken)]
    rfl
  · rw [refused quiet h, wakeUp_of_not_halted s awake]
    exact if_neg (Bool.eq_false_iff.1 awake)

/-! ## Interrupt entry -/

/-- Clearing one request leaves the others (R320). -/
theorem getLsbD_and_not_one_shiftLeft (x : BitVec 5) (i j : Nat) :
    (x &&& ~~~((1 : BitVec 5) <<< i)).getLsbD j = (x.getLsbD j && decide (j ≠ i)) := by
  have bit : ((1 : BitVec 5) <<< i).getLsbD j = (decide (i < 5) && decide (i = j)) := BitVec.getLsbD_twoPow i j
  rw [BitVec.getLsbD_and, BitVec.getLsbD_not, bit]
  by_cases hj : j < 5
  · by_cases e : j = i
    · simp [← e, hj]
    · simp [hj, e, Ne.symm e]
  · simp [hj, BitVec.getLsbD_of_ge x j (not_lt.1 hj)]

/-- Settles O39: the source is the lowest bit of those pending and armed, and the push is two stores in a row. -/
theorem interruptEntryRule : Obligations.InterruptEntryRule := by
  intro s moves quiet ime pending running
  obtain ⟨lt, armed, lowest⟩ := lowestBit_spec s.pendingArmed pending
  rw [getLsbD_pendingArmed s lt, Bool.and_eq_true] at armed
  obtain ⟨inIe, inIf⟩ := armed
  have entered := step_of_entered moves (interruptCheck_of_accepted running quiet ⟨ime, bne_iff_ne.2 pending⟩)
  refine ⟨lowestBit s.pendingArmed, lt, inIe, inIf, fun j hj => ?_, _, _, rfl,
    onlyBus_memWrite_memWrite _ _ _ _ _, storeFrame_memWrite_memWrite _ _ _ _ _, entered, ?_, fun j => ?_⟩
  · rw [← getLsbD_pendingArmed s (hj.trans lt), lowest j hj]
  · have kept : (memWrite (memWrite s (s.sp - 1) (hi8 s.pc)) (s.sp - 2) (lo8 s.pc)).joypadWakeOnly = false := by
      rw [memWrite_joypadWakeOnly, memWrite_joypadWakeOnly, running]
    rw [State.spend, interruptEntry_budget, interruptEntry_eq, ← kept]
    rfl
  · rw [interruptEntry_eq]
    exact getLsbD_and_not_one_shiftLeft _ _ _

/-! ## The writers of IME -/

/-- IME and the inhibition of the next check after an instruction: EI and RETI set both, DI clears both, and no other
instruction writes either (R280, R293, R294). -/
def imeAfter (i : Instr) (s : State) : Bool × Bool :=
  match i with
  | .ei | .reti => (true, true)
  | .di => (false, false)
  | _ => (s.ime, s.eiInhibit)

/-- The control fields of a state after an instruction: IME and the inhibition as `imeAfter` says, and `pc0` kept. -/
structure ControlAfter (i : Instr) (s t : State) : Prop where
  ime : t.ime = (imeAfter i s).1
  eiInhibit : t.eiInhibit = (imeAfter i s).2
  pc0 : t.pc0 = s.pc0

/-- The constructors are evaluated one by one, a conditional one on both of its outcomes: neither a register, nor a
store, nor a flag is a control field. -/
theorem exec_controlAfter (i : Instr) (s : State) : IfNext (ControlAfter i s) (exec i s) := by
  cases i
  case stop =>
    change IfNext _ (stopOp s)
    unfold stopOp
    split
    · rintro t ⟨⟩
    · exact ifNext_next ⟨rfl, rfl, rfl⟩
    · exact ifNext_next ⟨rfl, rfl, rfl⟩
  case prefixCb op2 =>
    change IfNext _ (cbPage op2 s)
    unfold cbPage
    dsimp only
    split <;> refine ifNext_next ?_ <;> constructor <;> simp [imeAfter]
  case jrNzE | jrZE | jrNcE | jrCE | jpNzNn | jpZNn | jpNcNn | jpCNn | callNzNn | callZNn | callNcNn | callCNn
    | retNz | retZ | retNc | retC =>
    refine cond_of _ (ifNext_next ?_) (ifNext_next ?_) <;> constructor <;> simp [imeAfter, push16]
  all_goals
    refine ifNext_next ?_
    constructor <;> simp [imeAfter, push16, State.putFlags, interruptReturn, enterHalt, raiseInvalidOpcode]

section
variable {s t : State}

/-- Whoever sets IME is EI or RETI. -/
theorem imeAfter_sets {i : Instr} (clear : s.ime = false) (set : (imeAfter i s).1 = true) : i = .ei ∨ i = .reti := by
  unfold imeAfter at set
  split at set
  · exact .inl rfl
  · exact .inr rfl
  · cases set
  · exact absurd set (Bool.eq_false_iff.1 clear)

/-- The instruction that clears IME is DI. -/
theorem imeAfter_clears {i : Instr} (set : s.ime = true) (clear : (imeAfter i s).1 = false) : i = .di := by
  unfold imeAfter at clear
  split at clear
  · cases clear
  · cases clear
  · rfl
  · exact absurd set (Bool.eq_false_iff.1 clear)

/-- The fetch looks at PC, the halt bug and the bus. -/
theorem fetchInstr_of_withCpuOf (e : t = withCpuOf s t) (pc : t.pc = s.pc) (bug : t.haltBug = s.haltBug) :
    fetchInstr t = fetchInstr s := by
  have reads (a : Word) : fetchRead t a = fetchRead s a :=
    (congrArg (fetchRead · a) e).trans (fetchRead_withCpuOf s t a)
  simp only [fetchInstr, fetchOpcode, afterOpcode, reads, pc, bug]

/-- A check that goes on leaves IME and what the fetch looks at as they were (R322). -/
theorem interruptCheck_goOn_frame (h : interruptCheck s = .goOn t) :
    t.ime = s.ime ∧ t.pc = s.pc ∧ fetchInstr t = fetchInstr s := by
  obtain ⟨-, rfl⟩ | ⟨-, -, rfl⟩ := interruptCheck_goOn s h
  · exact ⟨rfl, rfl, fetchInstr_of_withCpuOf rfl rfl rfl⟩
  · rw [wakeUp_eq]
    exact ⟨rfl, rfl, fetchInstr_of_withCpuOf rfl rfl rfl⟩

theorem executeOne_controlAfter (h : executeOne s = .next t) :
    t.ime = (imeAfter (fetchInstr s) s).1 ∧ t.pc0 = s.pc := by
  obtain ⟨ime, -, pc0⟩ := exec_controlAfter _ _ _ h
  refine ⟨ime.trans ?_, pc0⟩
  unfold imeAfter
  split <;> rfl

theorem vector_mem {i : Nat} (h : i < 5) : (vector i).toNat ∈ [0x40, 0x48, 0x50, 0x58, 0x60] := by
  revert i
  decide

/-- Interrupt entry clears IME, pushes two bytes and jumps to a vector, in a machine with a source pending and armed. -/
theorem interruptCheck_entered_frame (h : interruptCheck s = .entered t) :
    t.ime = false ∧ s.eiInhibit = false ∧ s.pendingArmed ≠ 0 ∧ t.sp = s.sp - 2 ∧
      t.pc.toNat ∈ [0x40, 0x48, 0x50, 0x58, 0x60] := by
  obtain ⟨quiet, accepted, rfl⟩ := interruptCheck_entered s h
  have pending : s.pendingArmed ≠ 0 := by
    rw [wakeUp_eq] at accepted
    simp only [accepts, Bool.and_eq_true] at accepted
    obtain ⟨⟨-, pending⟩, -⟩ := accepted
    exact bne_iff_ne.1 pending
  obtain ⟨lt, -, -⟩ := lowestBit_spec s.pendingArmed pending
  rw [interruptEntry_wakeUp, interruptEntry_eq]
  exact ⟨rfl, quiet, pending, rfl, vector_mem lt⟩

end

/-- Settles O41: a step that enters an interrupt clears IME, an idle one keeps it, and one that executes leaves what
`imeAfter` says of the fetched instruction. -/
theorem imeWriters : Obligations.ImeWriters := by
  intro s t moves h
  rw [step_of_empty s moves.schedule] at h
  obtain ⟨-, ⟨u, check, rfl⟩ | ⟨u, check, -, rfl⟩ | ⟨u, check, -, executed⟩⟩ := cpuStep_cases s h
  · obtain ⟨cleared, entered⟩ := interruptCheck_entered_frame check
    exact ⟨fun _ set => absurd set (Bool.eq_false_iff.1 cleared), fun _ _ => .inr entered⟩
  · obtain ⟨ime, -, -⟩ := interruptCheck_goOn_frame check
    have kept : (u.spend 4).ime = s.ime := ime
    exact ⟨fun clear set => absurd (kept.symm.trans set) (Bool.eq_false_iff.1 clear),
      fun set clear => absurd (kept.trans set) (Bool.eq_false_iff.1 clear)⟩
  · obtain ⟨ime, pc, fetched⟩ := interruptCheck_goOn_frame check
    obtain ⟨after, pc0⟩ := executeOne_controlAfter executed
    rw [fetched] at after
    exact ⟨fun clear set => ⟨pc0.trans pc, imeAfter_sets (ime.trans clear) (after.symm.trans set)⟩,
      fun set clear => .inl ⟨pc0.trans pc, imeAfter_clears (ime.trans set) (after.symm.trans clear)⟩⟩

end Sys2Proof.Machine
end

section
/-! PROOFS. The timer: its registers, the rounds of its two loops, and that cutting the ticks into slices does not
matter. -/

namespace Sys2Proof.Machine

/-! ## The registers -/

theorem toNat_timerRead_tac (tac : BitVec 3) : ((0xF8 : Byte) ||| tac.zeroExtend 8).toNat = 0xF8 + tac.toNat := by
  revert tac
  decide

/-- The tick budget that a write to TAC restarts is the period its bits 1..0 select (R343, R345). -/
theorem timerPeriod_extractLsb' (v : Byte) :
    (timerPeriod (v.extractLsb' 0 3) : Int) =
      if v.toNat % 4 = 0 then 1024 else if v.toNat % 4 = 1 then 16 else if v.toNat % 4 = 2 then 64 else 256 := by
  revert v
  decide

/-- Settles O53: each of the four addresses is the timer's own. -/
theorem timerRegisters : Obligations.TimerRegisters := by
  intro s v
  refine ⟨rfl, rfl, rfl, rfl, rfl, rfl, toNat_timerRead_tac s.tac, ?_⟩
  have low : v.extractLsb' 0 3 = BitVec.ofNat 3 (v.toNat % 8) := extractLsb'_eq_ofNat v 3
  rw [← low, ← timerPeriod_extractLsb']
  rfl

/-! ## The rounds of a loop -/

section
variable {left : Int} {m n period k l : Nat}

/-- `k` rounds bring the count above 0, and no fewer do: after the last one the count is at most one period. -/
def EndsAfter (left : Int) (n period k : Nat) : Prop :=
  0 < left - n + period * k ∧ (k = 0 ∨ left - n + period * k ≤ period)

theorem EndsAfter.le (h : EndsAfter left n period k) (h' : EndsAfter left n period l) : k ≤ l := by
  by_contra lt
  obtain ⟨pos, -⟩ := h'
  obtain ⟨-, rfl | last⟩ := h
  · omega
  · have more : (period : Int) * (l + 1) ≤ period * k := by
      exact_mod_cast Nat.mul_le_mul_left period (show l + 1 ≤ k by omega)
    rw [mul_add] at more
    omega

theorem EndsAfter.unique (h : EndsAfter left n period k) (h' : EndsAfter left n period l) : k = l :=
  le_antisymm (h.le h') (h'.le h)

theorem endsAfter_periodsElapsed (left : Int) (n : Nat) (hp : 0 < period) :
    EndsAfter left n period (periodsElapsed left n period) := by
  refine ⟨periodsElapsed_pos left n hp, ?_⟩
  unfold periodsElapsed
  split
  · exact .inl rfl
  · right
    have hp' : (0 : Int) < period := by exact_mod_cast hp
    have quotient := Int.mul_ediv_add_emod (n - left) period
    have remainder := Int.emod_nonneg (n - left) hp'.ne'
    have nonneg : 0 ≤ (n - left) / (period : Int) := Int.ediv_nonneg (by omega) hp'.le
    push_cast
    rw [Int.toNat_of_nonneg nonneg, mul_add]
    omega

/-- The rounds for `m + n` ticks are those for `m`, then those for `n` from the count they leave. -/
theorem periodsElapsed_add (left : Int) (m n : Nat) (hp : 0 < period) :
    periodsElapsed left (m + n) period =
      periodsElapsed left m period +
        periodsElapsed (left - m + period * periodsElapsed left m period) n period := by
  refine (endsAfter_periodsElapsed left (m + n) hp).unique ?_
  obtain ⟨pos₁, last₁⟩ := endsAfter_periodsElapsed left m hp
  obtain ⟨pos₂, last₂⟩ := endsAfter_periodsElapsed (left - m + period * periodsElapsed left m period) n hp
  generalize periodsElapsed left m period = k at *
  generalize periodsElapsed _ n period = l at *
  unfold EndsAfter
  push_cast
  rw [mul_add]
  refine ⟨by omega, ?_⟩
  obtain rfl | last₂ := last₂
  · obtain rfl | last₁ := last₁
    · exact .inl rfl
    · right
      push_cast at *
      omega
  · right
    omega

end

/-! ## The divider -/

section
variable {n : Nat} {s : State}

theorem advanceDiv_early (h : s.divTicks - n > 0) : advanceDiv n s = { s with divTicks := s.divTicks - n } := by
  simp [advanceDiv, periodsElapsed_zero 256 h]

/-- One round of the divider's loop (R341). -/
theorem advanceDiv_due (h : s.divTicks - n ≤ 0) :
    advanceDiv n s =
      advanceDiv 0 { s with div := BitVec.ofNat 8 (s.div.toNat + 1), divTicks := s.divTicks - n + 256 } := by
  have ticks (k : Int) : s.divTicks - n + 256 * (k + 1) = s.divTicks - n + 256 - 0 + 256 * k := by ring
  have step (k : Nat) : s.div + BitVec.ofNat 8 (k + 1) = BitVec.ofNat 8 (s.div.toNat + 1) + BitVec.ofNat 8 k := by
    bv_omega
  simp only [advanceDiv, periodsElapsed_succ (show 0 < 256 by decide) h]
  push_cast
  rw [ticks, step]

theorem advanceDiv_add (m n : Nat) (s : State) : advanceDiv n (advanceDiv m s) = advanceDiv (m + n) s := by
  have ticks (k l : Int) : s.divTicks - m + 256 * k - n + 256 * l = s.divTicks - (m + n) + 256 * (k + l) := by ring
  have rounds := periodsElapsed_add s.divTicks m n (show 0 < 256 by decide)
  simp only [advanceDiv, rounds]
  push_cast
  rw [ticks, BitVec.ofNat_add, BitVec.add_assoc]

/-! ## The programmable counter -/

theorem timaIncrement_step (h : s.tima ≠ 0xFF) :
    timaIncrement s = { s with tima := BitVec.ofNat 8 (s.tima.toNat + 1) } := if_neg h

/-- The step that would take TIMA to 0x00 reloads it and makes the request (R344). -/
theorem timaIncrement_overflow (h : s.tima = 0xFF) :
    timaIncrement s = { s with tima := s.tma, iflag := s.iflag ||| 0b00100 } := if_pos h

theorem timaIncrement_tima (s : State) : (timaIncrement s).tima = if s.tima = 0xFF then s.tma else s.tima + 1 := by
  unfold timaIncrement
  split <;> rfl

theorem timaIncrement_tac (s : State) : (timaIncrement s).tac = s.tac := by rw [timaIncrement_frame]

theorem timaIncrement_timaTicks (s : State) : (timaIncrement s).timaTicks = s.timaTicks := by rw [timaIncrement_frame]

theorem timaIncrements_tac (k : Nat) (s : State) : (timaIncrements k s).tac = s.tac := by rw [timaIncrements_frame]

theorem timaIncrements_add (k l : Nat) (s : State) :
    timaIncrements (k + l) s = timaIncrements l (timaIncrements k s) := by
  induction k generalizing s with
  | zero => rw [Nat.zero_add, timaIncrements]
  | succ k ih => rw [Nat.succ_add, timaIncrements, ih, timaIncrements]

/-- What commutes with one increment commutes with any number of them. -/
theorem timaIncrements_comm {f : State → State} (h : ∀ s, timaIncrement (f s) = f (timaIncrement s)) (k : Nat)
    (s : State) : timaIncrements k (f s) = f (timaIncrements k s) := by
  induction k generalizing s with
  | zero => rfl
  | succ k ih => rw [timaIncrements, h, ih, timaIncrements]

/-- The programmable counter's tick count is written. -/
def State.setTimaTicks (ticks : Int) (s : State) : State := { s with timaTicks := ticks }

theorem timaIncrement_setTimaTicks (ticks : Int) (s : State) :
    timaIncrement (s.setTimaTicks ticks) = (timaIncrement s).setTimaTicks ticks := by
  by_cases h : s.tima = 0xFF
  · rw [timaIncrement_overflow h]
    exact timaIncrement_overflow h
  · rw [timaIncrement_step h]
    exact timaIncrement_step h

theorem timaIncrement_advanceDiv (n : Nat) (s : State) :
    timaIncrement (advanceDiv n s) = advanceDiv n (timaIncrement s) := by
  by_cases h : s.tima = 0xFF
  · rw [timaIncrement_overflow h]
    exact timaIncrement_overflow h
  · rw [timaIncrement_step h]
    exact timaIncrement_step h

theorem advanceTima_disabled (n : Nat) (h : s.tac.getLsbD 2 = false) : advanceTima n s = s :=
  if_neg (Bool.eq_false_iff.1 h)

/-- An enabled counter steps once a round, and its tick count moves by the ticks and the periods added (R343). -/
theorem advanceTima_enabled (n : Nat) (h : s.tac.getLsbD 2 = true) :
    advanceTima n s =
      (timaIncrements (periodsElapsed s.timaTicks n (timerPeriod s.tac)) s).setTimaTicks
        (s.timaTicks - n + timerPeriod s.tac * periodsElapsed s.timaTicks n (timerPeriod s.tac)) :=
  (if_pos h).trans (timaIncrements_comm (timaIncrement_setTimaTicks _) _ s)

theorem advanceTima_early (enabled : s.tac.getLsbD 2 = true) (h : s.timaTicks - n > 0) :
    advanceTima n s = { s with timaTicks := s.timaTicks - n } := by
  rw [advanceTima_enabled n enabled, periodsElapsed_zero _ h]
  simp [timaIncrements, State.setTimaTicks]

/-- One round of the counter's loop (R343). -/
theorem advanceTima_due (enabled : s.tac.getLsbD 2 = true) (h : s.timaTicks - n ≤ 0) :
    advanceTima n s =
      advanceTima 0 (timaIncrement { s with timaTicks := s.timaTicks - n + timerPeriod s.tac }) := by
  have ticks (p k : Int) : s.timaTicks - n + p * (k + 1) = s.timaTicks - n + p - 0 + p * k := by ring
  have enabled' (x : Int) : ((timaIncrement s).setTimaTicks x).tac.getLsbD 2 = true :=
    (timaIncrement_tac s).symm ▸ enabled
  change _ = advanceTima 0 (timaIncrement (s.setTimaTicks _))
  rw [timaIncrement_setTimaTicks, advanceTima_enabled n enabled, periodsElapsed_succ (timerPeriod_pos s.tac) h,
    advanceTima_enabled 0 (enabled' _), timaIncrements_comm (timaIncrement_setTimaTicks _)]
  simp [State.setTimaTicks, timaIncrements, timaIncrement_tac, ticks]

theorem advanceTima_add (m n : Nat) (s : State) : advanceTima n (advanceTima m s) = advanceTima (m + n) s := by
  cases enabled : s.tac.getLsbD 2 with
  | false => rw [advanceTima_disabled m enabled, advanceTima_disabled n enabled, advanceTima_disabled _ enabled]
  | true =>
    have ticks (p k l : Int) : s.timaTicks - m + p * k - n + p * l = s.timaTicks - (m + n) + p * (k + l) := by ring
    have rounds := periodsElapsed_add s.timaTicks m n (timerPeriod_pos s.tac)
    rw [advanceTima_enabled m enabled, advanceTima_enabled (m + n) enabled, rounds, timaIncrements_add]
    have enabled' (k : Nat) (x : Int) : ((timaIncrements k s).setTimaTicks x).tac.getLsbD 2 = true :=
      (timaIncrements_tac k s).symm ▸ enabled
    rw [advanceTima_enabled n (enabled' _ _), timaIncrements_comm (timaIncrement_setTimaTicks _)]
    simp [State.setTimaTicks, timaIncrements_tac, ticks]

/-- The two counters share nothing (R340). -/
theorem advanceDiv_advanceTima (m n : Nat) (s : State) :
    advanceDiv n (advanceTima m s) = advanceTima m (advanceDiv n s) := by
  cases enabled : s.tac.getLsbD 2 with
  | false => rw [advanceTima_disabled m enabled, advanceTima_disabled m (s := advanceDiv n s) enabled]
  | true =>
    rw [advanceTima_enabled m enabled, advanceTima_enabled m (s := advanceDiv n s) enabled,
      timaIncrements_comm (timaIncrement_advanceDiv n)]
    rfl

/-! ## The deadline -/

/-- Before the deadline only the tick counts move (R347). -/
theorem advanceTimer_early (h : (n : Int) < timerCycles s) :
    advanceTimer n s = { s with
      divTicks := s.divTicks - n, timaTicks := if s.tac.getLsbD 2 then s.timaTicks - n else s.timaTicks } := by
  have div := timerCycles_le s
  unfold advanceTimer
  rw [advanceDiv_early (by omega)]
  cases enabled : s.tac.getLsbD 2 with
  | false => exact advanceTima_disabled n enabled
  | true =>
    have tima : timerCycles s ≤ s.timaTicks := by
      unfold timerCycles timerEnabled
      rw [if_pos enabled]
      exact min_le_right _ _
    exact advanceTima_early enabled (show s.timaTicks - n > 0 by omega)

/-- At the counter's deadline TIMA steps once (R343, R344). -/
theorem advanceTimer_tima (enabled : s.tac.getLsbD 2 = true) (h : (n : Int) = s.timaTicks) :
    (advanceTimer n s).tima = if s.tima = 0xFF then s.tma else s.tima + 1 := by
  have period := timerPeriod_pos s.tac
  have due : (advanceDiv n s).timaTicks - n ≤ 0 := show s.timaTicks - n ≤ 0 by omega
  unfold advanceTimer
  rw [advanceTima_due (s := advanceDiv n s) enabled due, advanceTima_early]
  · exact timaIncrement_tima _
  · rw [timaIncrement_tac]
    exact enabled
  · rw [timaIncrement_timaTicks]
    show s.timaTicks - n + timerPeriod s.tac - (0 : Nat) > 0
    omega

end

/-- Settles O51: each clause is one round of a loop, or its end. -/
theorem timerAdvance : Obligations.TimerAdvance := by
  intro n s period
  have period_eq : (timerPeriod s.tac : Int) = period := by
    unfold timerPeriod
    split <;> simp [period, *]
  refine ⟨?_, fun disabled => advanceTima_disabled n disabled, fun enabled early => advanceTima_early enabled early,
    fun enabled due h => ?_, fun enabled due h => ?_⟩
  · split
    · exact advanceDiv_early ‹_›
    · exact advanceDiv_due (not_lt.1 ‹_›)
  · rw [advanceTima_due enabled due, period_eq]
    exact congrArg (advanceTima 0) (timaIncrement_step h)
  · rw [advanceTima_due enabled due, period_eq]
    exact congrArg (advanceTima 0) (timaIncrement_overflow h)

/-- Settles O52: the rounds of two slices add up for each counter, and neither counter sees the other. -/
theorem timerSlicesCompose : Obligations.TimerSlicesCompose := by
  intro m n s
  refine ⟨?_, rfl, advanceTimer_early, fun _ => ⟨fun due => ?_, fun enabled due => advanceTimer_tima enabled due⟩⟩
  · unfold advanceTimer
    rw [advanceDiv_advanceTima, advanceDiv_add, advanceTima_add]
  · rw [advanceTimer_div n s due.le, if_pos due]

end Sys2Proof.Machine
end

section
/-! PROOFS. The moves of the environment and the host: what each does and what none of them reaches; the joypad. -/

namespace Sys2Proof.Machine

/-- A move other than the CPU's and `reset()` is made by a machine without a fault (R353, log 7). -/
theorem step_of_move {s : State} {m : Move} {rest : List Move} (head : s.schedule = m :: rest) (fault : s.fault = none)
    (cpu : m ≠ .cpu) (reset : m ≠ .reset) : step s = .next (applyMove m { s with schedule := rest }) := by
  unfold step machineStep
  rw [head, fault]
  cases m with
  | cpu => exact absurd rfl cpu
  | reset => exact absurd rfl reset
  | request | timer | device | buttons | serialDone | clock | emulate => rfl

/-! ## The joypad -/

/-- P1 put together from its three fields (R357). -/
theorem joypad_fields {r : Byte} {select : BitVec 2} {nibble : BitVec 4}
    (h : r = (0b11 : BitVec 2) ++ select ++ nibble) :
    r.getLsbD 7 = true ∧ r.getLsbD 6 = true ∧ r.getLsbD 5 = select.getLsbD 1 ∧ r.getLsbD 4 = select.getLsbD 0 ∧
      r.extractLsb' 0 4 = nibble := by
  subst h
  revert select nibble
  decide

theorem joypadSelect_fields (v : Byte) :
    (v.extractLsb' 4 2).getLsbD 1 = v.getLsbD 5 ∧ (v.extractLsb' 4 2).getLsbD 0 = v.getLsbD 4 ∧
      (v.getLsbD 5 = false → v.getLsbD 4 = true → v.extractLsb' 4 2 = 0b01) ∧
      (v.getLsbD 5 = true → v.getLsbD 4 = false → v.extractLsb' 4 2 = 0b10) ∧
      (v &&& 0x30).extractLsb' 4 2 = v.extractLsb' 4 2 := by
  revert v
  decide

/-- What P1 reads after a write: the select bits as written, and the mask of the group they select (R357, log 13). -/
theorem memRead_memWrite_joypad (s : State) (v : Byte) :
    memRead (memWrite s 0xFF00 v) 0xFF00 =
      (0b11 : BitVec 2) ++ v.extractLsb' 4 2 ++
        (if v.extractLsb' 4 2 = 0b01 then s.joyActions else if v.extractLsb' 4 2 = 0b10 then s.joyDirs
          else Config.joyNibble (v.extractLsb' 4 2) s.joyDirs s.joyActions) := by
  obtain ⟨-, -, -, -, select⟩ := joypadSelect_fields v
  have written : (memWrite s 0xFF00 v).onboard 0xFF00 = v &&& 0x30 := by
    show (s.setOnboard 0xFF00 (v &&& 0x30)).onboard 0xFF00 = _
    simp [State.onboard]
  show (memWrite s 0xFF00 v).joypadRead = _
  simp only [State.joypadRead, written, select, memWrite_joyActions, memWrite_joyDirs]

section
variable {s : State} {dirs actions : BitVec 4}

/-- A newly pressed button makes the request (R357). -/
theorem latchButtons_pressed
    (h : ∃ i, i < 4 ∧ (s.joyDirs.getLsbD i = true ∧ dirs.getLsbD i = false ∨
      s.joyActions.getLsbD i = true ∧ actions.getLsbD i = false)) :
    (latchButtons dirs actions s).iflag = s.iflag ||| 0b10000 := by
  have pressed : (s.joyDirs &&& ~~~dirs != 0 || s.joyActions &&& ~~~actions != 0) = true := by
    rw [Bool.or_eq_true, bne_iff_ne, bne_iff_ne, ne_zero_iff_getLsbD, ne_zero_iff_getLsbD]
    obtain ⟨i, hi, h | h⟩ := h
    · exact .inl ⟨i, hi, by rw [BitVec.getLsbD_and, BitVec.getLsbD_not, h.1, h.2, decide_eq_true hi]; rfl⟩
    · exact .inr ⟨i, hi, by rw [BitVec.getLsbD_and, BitVec.getLsbD_not, h.1, h.2, decide_eq_true hi]; rfl⟩
  unfold latchButtons
  dsimp only
  rw [pressed, Bool.true_or, if_pos rfl]
  rfl

/-- Masks that are as they were make no request. -/
theorem latchButtons_unchanged (s : State) : (latchButtons s.joyDirs s.joyActions s).iflag = s.iflag := by
  simp [latchButtons]

end

/-- Settles O47: P1 after a write is put together from three fields, and the buttons' move latches the masks. -/
theorem joypadRegister : Obligations.JoypadRegister := by
  refine ⟨fun s v => ?_, fun s dirs actions rest head fault => ?_⟩
  · obtain ⟨bit5, bit4, actionGroup, directionGroup, -⟩ := joypadSelect_fields v
    obtain ⟨one7, one6, select1, select0, nibble⟩ := joypad_fields (memRead_memWrite_joypad s v)
    refine ⟨one7, one6, select1.trans bit5, select0.trans bit4, fun h5 h4 => ?_, fun h5 h4 => ?_⟩
    · rw [actionGroup h5 h4] at nibble
      exact nibble
    · rw [directionGroup h5 h4] at nibble
      exact nibble
  · refine ⟨_, step_of_move head fault nofun nofun, latchButtons_eq _ _ _, fun h => latchButtons_pressed h, ?_,
      latchButtons_iflag _ _ _⟩
    rintro rfl rfl
    exact latchButtons_unchanged _

/-! ## A peripheral's own change -/

section
variable {addr : Word} (v : Byte) (s : State)

theorem deviceChange_ram (h : ownerOf addr = .videoRam ∨ ownerOf addr = .oam) :
    deviceChange addr v s = s.setOnboard addr.toNat v := by
  obtain e | e := h <;> simp only [deviceChange, e]

theorem deviceChange_register (h : ownerOf addr = .serial ∨ ownerOf addr = .apu ∨ ownerOf addr = .ppu) :
    deviceChange addr v s = if hasRegister addr.toNat then s.setOnboard addr.toNat v else s := by
  obtain e | e | e := h <;> simp only [deviceChange, e]

theorem deviceChange_elsewhere (h : ownerOf addr ∉ [.videoRam, .oam, .serial, .apu, .ppu]) :
    deviceChange addr v s = s := by
  obtain e | ⟨-, e⟩ := deviceChange_cases addr v s
  · exact e
  · exact absurd (by simpa using e) h

/-- A register that its device has changed (R353). -/
theorem memRead_setOnboard_register (h : ownerOf addr = .serial ∨ ownerOf addr = .apu ∨ ownerOf addr = .ppu)
    (hr : hasRegister addr.toNat = true) :
    memRead (s.setOnboard addr.toNat v) addr = v ||| periphOnes addr.toNat := by
  rw [memRead_register _ h hr]
  simp [State.onboard]

theorem deviceChange_effect (addr : Word) : MoveEffect s (deviceChange addr v s) (.device addr v) := by
  refine ⟨?_, fun a ha => ?_, fun ram => ?_, fun register => ?_, deviceChange_elsewhere v s⟩
  · obtain e | ⟨e, -⟩ := deviceChange_cases addr v s
    · rw [e]
    · rw [e]
      rfl
  · obtain e | ⟨e, -⟩ := deviceChange_cases addr v s
    · rw [e]
    · rw [e]
      exact memRead_setOnboard_other s _ v a ha
  · have home : homeOf addr = addr.toNat := homeOf_of_ne (by obtain e | e := ram <;> simp [e])
    have plain : InRam addr := by obtain e | e := ram <;> simp [InRam, e]
    rw [deviceChange_ram v s ram, ← home]
    exact memRead_setOnboard_self s v addr plain
  · rw [deviceChange_register v s register]
    split
    · exact memRead_setOnboard_register v s register ‹_›
    · rfl

end

/-! ## What each move does -/

/-- A read of another register than IF does not see a request. -/
theorem memRead_raise_other (s : State) (mask : Byte) {a : Word} (h : a ≠ 0xFF0F) :
    memRead (s.raise mask) a = memRead s a := by
  have other : ownerOf a ≠ .intFlag := fun e => h (BitVec.eq_of_toNat_eq ((ownerOf_iff a .intFlag).1 e))
  exact memRead_congr a rfl rfl rfl rfl rfl rfl rfl (fun _ => ⟨rfl, rfl, rfl, rfl⟩)
    (fun _ => cartRamRead_congr a rfl rfl rfl rfl rfl rfl rfl) (fun _ => timerRead_congr a rfl rfl rfl rfl)
    (fun e => absurd e other) (fun _ => rfl)

/-- The end of a transfer: SB reads 0xFF, and the serial request is made (R358). -/
theorem serialDone_effect (s : State) : MoveEffect s (applyMove .serialDone s) .serialDone := by
  refine ⟨rfl, ?_, fun a hb hf => ?_⟩
  · show memRead ((s.setOnboard 0xFF01 0xFF).raise 0x08) 0xFF01 = 0xFF
    rw [memRead_raise_other _ _ (by decide)]
    exact (memRead_setOnboard_register (addr := 0xFF01) 0xFF s (.inl rfl) rfl).trans BitVec.allOnes_or
  · show memRead ((s.setOnboard 0xFF01 0xFF).raise 0x08) a = memRead s a
    rw [memRead_raise_other _ _ hf]
    refine memRead_setOnboard_other s _ _ a fun home => hb (BitVec.eq_of_toNat_eq (y := 0xFF01) ?_)
    show a.toNat = 0xFF01
    simp only [homeOf, ownerOf_iff, Owner.Range] at home
    split at home <;> omega

theorem latchButtons_effect (dirs actions : BitVec 4) (s : State) :
    MoveEffect s (latchButtons dirs actions s) (.buttons dirs actions) := by
  refine ⟨latchButtons_eq dirs actions s, fun i hi => ?_⟩
  have bit : (0b10000 : BitVec 5).getLsbD i = (decide (4 < 5) && decide (4 = i)) := BitVec.getLsbD_twoPow 4 i
  obtain e | e := latchButtons_iflag dirs actions s
  · rw [e]
  · rw [e, BitVec.getLsbD_or, bit, decide_eq_false hi.symm, Bool.and_false, Bool.or_false]

theorem applyMove_effect (m : Move) (s : State) : MoveEffect s (applyMove m s) m := by
  cases m with
  | cpu | reset => trivial
  | request src => cases src <;> rfl
  | timer | clock | emulate => rfl
  | device addr v => exact deviceChange_effect v s addr
  | buttons dirs actions => exact latchButtons_effect dirs actions s
  | serialDone => exact serialDone_effect s

/-! ## What no move reaches -/

/-- Only what belongs to the environment and the host differs: IF, the timer's registers and counts, the joypad's masks,
the bytes on board, another controller's record, and the budget. -/
def OnlyEnvironment (s t : State) : Prop :=
  t = { s with
        iflag := t.iflag, div := t.div, tima := t.tima, divTicks := t.divTicks, timaTicks := t.timaTicks
        joyDirs := t.joyDirs, joyActions := t.joyActions, mem := t.mem, cartLog := t.cartLog, budget := t.budget }

section
variable {m : Move}

theorem applyMove_onlyEnvironment (s : State) (reset : m ≠ .reset) : OnlyEnvironment s (applyMove m s) := by
  unfold OnlyEnvironment
  cases m with
  | cpu | request | clock | emulate | serialDone => rfl
  | reset => exact absurd rfl reset
  | timer n =>
    simp only [applyMove]
    rw [advanceTimer_frame]
  | device addr v =>
    simp only [applyMove]
    obtain e | ⟨e, -⟩ := deviceChange_cases addr v s
    · rw [e]
    · rw [e]
      rfl
  | buttons dirs actions =>
    simp only [applyMove]
    rw [latchButtons_eq]

/-- No move clears a request (R353). -/
theorem applyMove_iflag (s : State) (reset : m ≠ .reset) {i : Nat} (h : s.iflag.getLsbD i = true) :
    (applyMove m s).iflag.getLsbD i = true := by
  have requested (mask : BitVec 5) : (s.iflag ||| mask).getLsbD i = true := by simp [h]
  cases m with
  | cpu | clock | emulate => exact h
  | request | serialDone => exact requested _
  | reset => exact absurd rfl reset
  | timer n => exact advanceTimer_iflag n s i h
  | device addr v =>
    simp only [applyMove]
    obtain e | ⟨e, -⟩ := deviceChange_cases addr v s <;> rw [e] <;> exact h
  | buttons dirs actions =>
    simp only [applyMove]
    obtain e | e := latchButtons_iflag dirs actions s <;> rw [e]
    · exact h
    · exact requested _

/-- Work RAM, seen at its own addresses or at its echo, and high RAM: the CPU's alone (R353). -/
theorem memRead_applyMove (s : State) (reset : m ≠ .reset) {a : Word}
    (h : ownerOf a = .workRam ∨ ownerOf a = .echo ∨ ownerOf a = .highRam) :
    memRead (applyMove m s) a = memRead s a := by
  have plain : InRam a := by obtain e | e | e := h <;> simp [InRam, e]
  have home : 0xC000 ≤ homeOf a ∧ homeOf a ≤ 0xDFFF ∨ 0xFF80 ≤ homeOf a := by
    simp only [homeOf, ownerOf_iff, Owner.Range] at h ⊢
    split <;> omega
  have stored {t u : State} (mem : t.mem = u.mem) (draw : t.ramDraw = u.ramDraw) : memRead t a = memRead u a := by
    simp only [memRead_ram _ plain, State.onboard, mem, draw]
  cases m with
  | cpu | request | clock | emulate => exact stored rfl rfl
  | reset => exact absurd rfl reset
  | timer n =>
    simp only [applyMove]
    rw [advanceTimer_frame]
    exact stored rfl rfl
  | buttons dirs actions =>
    simp only [applyMove]
    rw [latchButtons_eq]
    exact stored rfl rfl
  | device addr v =>
    simp only [applyMove]
    obtain e | ⟨e, owner⟩ := deviceChange_cases addr v s
    · rw [e]
    · rw [e]
      refine memRead_setOnboard_other s _ v a ?_
      simp only [ownerOf_iff, Owner.Range] at owner
      omega
  | serialDone =>
    have raised : memRead (applyMove .serialDone s) a = memRead (s.setOnboard 0xFF01 0xFF) a := stored rfl rfl
    exact raised.trans (memRead_setOnboard_other s _ _ a (by omega))

end

/-- Settles O58: each move has its own effect, and what differs is what belongs to the environment. -/
theorem environmentFrame : Obligations.EnvironmentFrame := by
  intro s m rest head fault cpu reset
  have frame := applyMove_onlyEnvironment { s with schedule := rest } reset
  have requests (i : Nat) (h : s.iflag.getLsbD i = true) :=
    applyMove_iflag { s with schedule := rest } reset (i := i) h
  have effect := applyMove_effect m { s with schedule := rest }
  have ram (a : Word) (h : ownerOf a = .workRam ∨ ownerOf a = .echo ∨ ownerOf a = .highRam) :
      memRead (applyMove m { s with schedule := rest }) a = memRead s a :=
    (memRead_applyMove { s with schedule := rest } reset h).trans (sameReads_of rfl a)
  refine ⟨_, step_of_move head fault cpu reset, ?_⟩
  generalize applyMove m { s with schedule := rest } = t at *
  unfold OnlyEnvironment at frame
  refine ⟨by rw [frame], effect, fun r => ?_, ?_⟩
  · rw [frame]
    cases r <;> rfl
  · refine ⟨?_, ?_, ?_, ?_, ?_, ?_, ?_, ?_, ?_, requests, ram, ?_, ?_⟩ <;> rw [frame]
    exact fault

end Sys2Proof.Machine
end

section
/-! PROOFS. The ROM-only cartridge, and the loader's checks. -/

namespace Sys2Proof.Machine

/-! ## The ROM-only cartridge -/

section
variable {s : State} {a : Word}

/-- A ROM-only cartridge shows its banks 0 and 1, so an address below 0x8000 is an offset into the image (R382). -/
theorem memRead_romOnly (h : s.cart.kind = .romOnly) (ha : a.toNat ≤ 0x7FFF) :
    memRead s a = romImageByte s.rom a.toNat := by
  rcases le_or_gt a.toNat 0x3FFF with low | high
  · rw [memRead_romFixed s low, lowBank_eq_zero (.inl h), zero_mul, zero_add]
  · have bank : s.highBank = 1 := by simp only [State.highBank, h]
    rw [memRead_romBanked s high ha, bank, one_mul, Nat.add_sub_cancel' high]

/-- It takes no commands (R382). -/
theorem memWrite_romOnly (v : Byte) (h : s.cart.kind = .romOnly) (ha : a.toNat ≤ 0x7FFF) : memWrite s a v = s := by
  rw [memWrite_command s v ha]
  simp only [State.cartCommand, h]

theorem ramWindow_romOnly (h : s.cart.kind = .romOnly) (hram : s.cart.ramBanks = 0) : s.ramWindow = .closed := by
  simp only [State.ramWindow, h, hram, if_true]

end

/-! ## The bytes of an image -/

section
variable {m : Memory}

theorem romImageByte_store (hm : Memory.wf .rom m = true) (k : Nat) (v : Byte) (n : Nat) :
    romImageByte (m.store .rom k v) n = if n = k then v else romImageByte m n := by
  unfold romImageByte
  split
  · subst n
    exact Memory.getD_store_rom hm k v
  · rw [Memory.get?_store_other m ‹_›]

/-- Bytes stored from offset `k` on are read there, and elsewhere what was there. -/
theorem romImageByte_foldl_store (image : List Byte) (k : Nat) (hm : Memory.wf .rom m = true) (n : Nat) :
    romImageByte ((image.zipIdx k).foldl (fun m p => Memory.store .rom m p.2 p.1) m) n =
      if k ≤ n then image.getD (n - k) (romImageByte m n) else romImageByte m n := by
  induction image generalizing k m with
  | nil => simp
  | cons v image ih =>
    rw [List.zipIdx_cons, List.foldl_cons, ih (k + 1) (Memory.wf_store hm k v), romImageByte_store hm]
    rcases lt_trichotomy n k with lt | rfl | gt
    · rw [if_neg (by omega), if_neg (by omega), if_neg (by omega)]
    · rw [if_neg (by omega), if_pos rfl, if_pos le_rfl, Nat.sub_self, List.getD_cons_zero]
    · have next : n - k = n - (k + 1) + 1 := by omega
      rw [if_pos (show k + 1 ≤ n from gt), if_neg (by omega), if_pos gt.le, next, List.getD_cons_succ]

end

/-- The bytes of the image are what ROM reads, and 0xFF past its end (R385, log 5). -/
theorem romImageByte_romOfBytes (image : List Byte) (n : Nat) :
    romImageByte (romOfBytes image) n = image.getD n 0xFF :=
  romImageByte_foldl_store image 0 (m := []) rfl n

/-! ## The header's tables and its checksum -/

theorem romSizeOfCode_eq_some (code : Byte) (size : Nat) :
    romSizeOfCode code = some size ↔ code.toNat ≤ 8 ∧ size = 0x8000 * 2 ^ code.toNat := by
  unfold romSizeOfCode
  split
  · simp [*, eq_comm]
  · simp [*]

theorem mem_of_ramBanksOfCode {code : Byte} {banks : Nat} (h : ramBanksOfCode code = some banks) :
    (code.toNat, banks * 8) ∈ [(0, 0), (2, 8), (3, 32), (4, 128), (5, 64)] := by
  unfold ramBanksOfCode at h
  split at h <;> cases h <;> simp [*]

/-- A ROM bank is 16 KB, so the banks of a declared size make up the image (R380, R385). -/
theorem romBanks_mul (code : Nat) : 0x8000 * 2 ^ code / 0x4000 * 0x4000 = 0x8000 * 2 ^ code := by omega

/-- Subtracting a byte and 1 is adding its complement modulo 256. -/
theorem toNat_foldl_checksum (byte : Nat → Byte) (offsets : List Nat) (x : Byte) :
    (offsets.foldl (fun x k => x - byte k - 1) x).toNat =
      (x.toNat + (offsets.map fun k => 255 - (byte k).toNat).sum) % 256 := by
  induction offsets generalizing x with
  | nil => exact (Nat.mod_eq_of_lt x.isLt).symm
  | cons k offsets ih =>
    have round : (x - byte k - 1).toNat = (x.toNat + (255 - (byte k).toNat)) % 256 := by bv_omega
    rw [List.foldl_cons, ih, round, List.map_cons, List.sum_cons]
    omega

theorem toNat_headerChecksum (rom : Memory) :
    (headerChecksum rom).toNat =
      ((List.range 25).map fun k => 255 - (romImageByte rom (0x134 + k)).toNat).sum % 256 := by
  rw [headerChecksum, toNat_foldl_checksum]
  simp

/-! ## The checks -/

/-- An image whose length is not the declared one, or that declares none, is refused as such (log 24). -/
theorem loadCart_badSize {image : List Byte} (saved : Option Memory)
    (h : ∀ size, romSizeOfCode (romImageByte (romOfBytes image) 0x148) = some size → image.length ≠ size) :
    loadCart image saved = .error .badSize := by
  unfold loadCart
  dsimp only
  split
  · exact if_pos (h _ ‹_›)
  · rfl

/-- Settles O48: bank 0 and bank 1 are the image in order, no command or closed window has an effect, and the codes 0x00
select that kind and no RAM. -/
theorem romOnlyCartridge : Obligations.RomOnlyCartridge := by
  refine ⟨fun s a v h => ⟨fun ha => ⟨memRead_romOnly h ha, memWrite_romOnly v h ha⟩, fun hram ha =>
    memAccess_closed s v ha (ramWindow_romOnly h hram)⟩, fun image saved cart rom h type ram => ?_⟩
  obtain ⟨-, size, banks, kind, -, hbanks, -, -, hkind, rfl⟩ := loadCart_eq_ok h
  rw [type] at hkind
  rw [ram] at hbanks
  cases hkind
  cases hbanks
  exact ⟨rfl, rfl⟩

/-- Settles O59: an accepted image has passed each check, and each check is a table or the sum of the complements. -/
theorem loaderChecks : Obligations.LoaderChecks := by
  intro image saved
  have bytes := romImageByte_romOfBytes image
  refine ⟨bytes, fun cart rom h => ?_, fun h => loadCart_badSize saved fun size declared => ?_⟩
  · obtain ⟨rfl, size, banks, kind, hsize, hbanks, length, checksum, -, rfl⟩ := loadCart_eq_ok h
    rw [bytes, romSizeOfCode_eq_some] at hsize
    rw [bytes] at hbanks
    obtain ⟨le, rfl⟩ := hsize
    refine ⟨rfl, le, length, (romBanks_mul _).trans length.symm, mem_of_ramBanksOfCode hbanks, ?_⟩
    rw [← bytes 0x14D, ← checksum, toNat_headerChecksum]
    simp only [bytes]
  · rw [bytes, romSizeOfCode_eq_some] at declared
    exact declared.2 ▸ h

end Sys2Proof.Machine
end

section
/-! PROOFS. What follows an EI or RETI, and the host's `reset()`. -/

namespace Sys2Proof.Machine

/-! ## The enable delay -/

section
variable {s t : State}

/-- The next state of a machine that fetches is its instruction's, executed uninhibited. -/
theorem exec_of_fetches (fetches : Fetches s) (h : step s = .next t) :
    exec (fetchInstr s) (afterFetch { s with eiInhibit := false }) = .next t :=
  (step_of_fetches s fetches).symm.trans h

/-- EI and RETI leave a machine whose next step fetches, since its check is inhibited (R421). -/
theorem fetches_of_enable (fetches : Fetches s) (enable : fetchInstr s = .ei ∨ fetchInstr s = .reti)
    (h : step s = .next t) : Fetches t ∧ t.eiInhibit = true := by
  have executed := exec_of_fetches fetches h
  obtain ⟨schedule, fault, awake, -⟩ := fetches
  obtain ei | reti := enable
  · rw [ei] at executed
    cases executed
    exact ⟨⟨schedule, fault, awake, .inl rfl⟩, rfl⟩
  · rw [reti] at executed
    cases executed
    exact ⟨⟨schedule, fault, awake, .inl rfl⟩, rfl⟩

/-- Whoever inhibits the next check is EI or RETI. -/
theorem imeAfter_inhibits {i : Instr} (quiet : s.eiInhibit = false) (inhibits : (imeAfter i s).2 = true) :
    i = .ei ∨ i = .reti := by
  unfold imeAfter at inhibits
  split at inhibits
  · exact .inl rfl
  · exact .inr rfl
  · cases inhibits
  · exact absurd inhibits (Bool.eq_false_iff.1 quiet)

/-- A fetched instruction that leaves the next check inhibited is EI or RETI, whatever stood before it (R421). -/
theorem enable_of_inhibited (fetches : Fetches s) (h : step s = .next t) (inhibited : t.eiInhibit = true) :
    fetchInstr s = .ei ∨ fetchInstr s = .reti := by
  obtain ⟨-, after, -⟩ := exec_controlAfter _ _ _ (exec_of_fetches fetches h)
  exact imeAfter_inhibits rfl (after.symm.trans inhibited)

/-- A call of `emulate` that grants too little after EI or RETI makes no check (R351, R421, log 30). -/
theorem cpuEmulate_of_spent_inhibited (fuel : Nat) {n : Nat} (inhibited : s.eiInhibit = true)
    (spent : s.budget + n ≤ 0) : cpuEmulate fuel n s = .next { s with budget := s.budget + n } := by
  rw [cpuEmulate_of_spent fuel spent, checkOnly_of_eiInhibit]
  exact inhibited

end

/-- Settles O40: EI and RETI leave a state that fetches, and an instruction that keeps the inhibition is one of them. -/
theorem enableDelay : Obligations.EnableDelay := by
  intro s t fetches enable h
  obtain ⟨fetchesNext, inhibited⟩ := fetches_of_enable fetches enable h
  exact ⟨step_of_fetches t fetchesNext, fun _ executed => enable_of_inhibited fetchesNext executed,
    fun fuel _ => cpuEmulate_of_spent_inhibited fuel inhibited⟩

/-! ## `reset()` -/

/-- `reset()` as the machine's next move (R400, log 7). -/
theorem step_of_reset {s : State} {rest : List Move} (head : s.schedule = .reset :: rest) :
    step s = .next (hostReset { s with schedule := rest }) := by
  unfold step machineStep
  rw [head]

/-- The power-on value of a peripheral register does not depend on the draw of RAM (R401, R404, log 33). -/
theorem onboard_resetWith_register (p : Params) (cart : Cart) (rom : Memory) (draw : Nat) (sched : List Move) {n : Nat}
    (lo : 0xFF00 ≤ n) (hi : n < 0xFF80) :
    (State.resetWith p cart rom draw sched).onboard n = Config.resetRegister n := resetContent_register draw lo hi

/-- After two resets that differ in the draw of RAM every peripheral register reads the same (log 33). -/
theorem memRead_resetWith_register (p : Params) (cart : Cart) (rom : Memory) (draw draw' : Nat) (sched : List Move)
    {a : Word} (h : ownerOf a = .joypad ∨ ownerOf a = .serial ∨ ownerOf a = .apu ∨ ownerOf a = .ppu) :
    memRead (State.resetWith p cart rom draw sched) a = memRead (State.resetWith p cart rom draw' sched) a := by
  have stored {n : Nat} (lo : 0xFF00 ≤ n) (hi : n < 0xFF80) :
      (State.resetWith p cart rom draw sched).onboard n = (State.resetWith p cart rom draw' sched).onboard n := by
    rw [onboard_resetWith_register p cart rom draw sched lo hi, onboard_resetWith_register p cart rom draw' sched lo hi]
  obtain joypad | register := h
  · simp only [memRead, joypad, State.joypadRead, stored (n := 0xFF00) (by decide) (by decide)]
    rfl
  · obtain ⟨lo, hi⟩ : 0xFF00 ≤ a.toNat ∧ a.toNat < 0xFF80 := by
      simp only [ownerOf_iff, Owner.Range] at register
      omega
    rw [memRead_periph _ register, memRead_periph _ register, State.periphRead, State.periphRead, stored lo hi]

/-- Settles O55: the reset state is `resetWith` of what the machine keeps, and only RAM sees the draw. -/
theorem resetProcedure : Obligations.ResetProcedure := by
  refine ⟨fun s => ?_, fun s s' params cart rom schedule => ?_⟩
  · have af : (hostReset s).a ++ (hostReset s).f = s.params.resetAF &&& 0xFFF0 :=
      (mkWord_and_F0 _ _).trans (congrArg (· &&& 0xFFF0) (mkWord_hi8_lo8 s.params.resetAF))
    exact ⟨af, mkWord_hi8_lo8 _, mkWord_hi8_lo8 _, mkWord_hi8_lo8 _, rfl, rfl, rfl, rfl, rfl, rfl, rfl, rfl, rfl, rfl,
      rfl, rfl, rfl, rfl, rfl, rfl, rfl, rfl, rfl, rfl, rfl, rfl, rfl, rfl, rfl, rfl, fun _ => step_of_reset⟩
  · unfold hostReset
    rw [params, cart, rom, schedule]
    exact ⟨rfl, fun a => memRead_resetWith_register _ _ _ _ _ _⟩

end Sys2Proof.Machine
end
